-- ==== Sys2Proof/Word.lean ====
section
/-! DEFINITION. The two data widths of the machine: 8-bit data and 16-bit addresses (spec/00_scope.md R3). -/

namespace Sys2Proof

/-- `DATA_WIDTH` = 8: a general register, a memory position, an `imm8` (R3, R10, R31). -/
abbrev Byte := BitVec 8

/-- `ADDR_WIDTH` = 16: `IP`, `SP`, the pairs `AB` and `CD`, an address (R3, R11 to R13). -/
abbrev Word := BitVec 16

end Sys2Proof
end

