-- ==== Sys2Proof/Syntax.lean ====
section
/-! DEFINITION. The syntax: registers, addressing forms, operands, mnemonics, and the 256 instructions, one constructor for
each row of spec/opcode_table.json, those with operand bytes first (Lean's runtime limits where a constructor with arguments may
stand), each block in the order of spec/30_encoding.md R70. A constructor's arguments are the operand bytes of
its format (R61); its register operands are in its name, since the opcode fixes them (R60, R65). -/

namespace Sys2Proof

/-- The four general registers (R10). -/
inductive Reg
  | A
  | B
  | C
  | D
deriving DecidableEq, Repr

/-- The two register pairs (R11). -/
inductive Pair
  | AB
  | CD
deriving DecidableEq, Repr

/-- The five addressing forms (R66, D4): `[addr16]`, `[AB]`, `[CD]`, `[AB+disp16]`, `[CD+disp16]`. The address each names is the
parameter `ADDR_FORMS`. -/
inductive AddrForm
  | direct (addr16 : Word)
  | implicit (p : Pair)
  | indexed (p : Pair) (disp16 : Word)
deriving DecidableEq, Repr

/-- What holds 8 bits: a general register, `F`, a memory position. -/
inductive Loc8
  | reg (r : Reg)
  | flags
  | mem (m : AddrForm)
deriving DecidableEq, Repr

/-- What holds 16 bits: a pair, `SP`, two memory positions. -/
inductive Loc16
  | pair (p : Pair)
  | sp
  | mem (m : AddrForm)
deriving DecidableEq, Repr

/-- An 8-bit source operand. -/
inductive Src8
  | imm (v : Byte)
  | loc (l : Loc8)
deriving DecidableEq, Repr

/-- A 16-bit source operand. -/
inductive Src16
  | imm (v : Word)
  | loc (l : Loc16)
deriving DecidableEq, Repr

/-- An operand as written: 8-bit, 16-bit, or a relative offset (R73). -/
inductive Operand
  | byte (o : Src8)
  | word (o : Src16)
  | rel8 (v : Byte)
deriving DecidableEq, Repr

/-- The 54 mnemonics (R73). -/
inductive Mnemonic
  | mov
  | in
  | out
  | push
  | pop
  | dec
  | inc
  | not
  | neg
  | shl
  | shr
  | rl
  | rr
  | sub
  | add
  | sbb
  | adc
  | cmp
  | and
  | xor
  | or
  | mul
  | imul
  | div
  | idiv
  | exp
  | jr
  | js
  | jp
  | jo
  | jc
  | jz
  | jns
  | jnp
  | jno
  | jnc
  | jnz
  | jzc
  | jso
  | jsonz
  | jnzc
  | jnso
  | jznso
  | jeqz
  | jneqz
  | loop
  | jmp
  | call
  | ret
  | clc
  | cmc
  | stc
  | halt
  | nop
deriving DecidableEq, Repr

/-- The four sub-sets of instructions (R2, §2.1 to §2.4). -/
inductive Family
  | dataMovement
  | arithmeticLogic
  | branch
  | control
deriving DecidableEq, Repr

/-- An instruction as written: a mnemonic and its operands, destination first (R73). -/
structure Asm where
  mnemonic : Mnemonic
  operands : List Operand
deriving DecidableEq, Repr

/-- The 256 instructions, each with its place in the list of R70, its text and its rule. -/
inductive Instr
  -- with operand bytes: formats F1, F2, F3
  | movA_imm8 (imm8 : Byte) -- 0x00 MOV A, imm8 (R105)
  | movA_atAddr (addr16 : Word) -- 0x04 MOV A, [addr16] (R109)
  | movA_atABdisp (disp16 : Word) -- 0x07 MOV A, [AB+disp16] (R112)
  | movA_atCDdisp (disp16 : Word) -- 0x08 MOV A, [CD+disp16] (R113)
  | movB_imm8 (imm8 : Byte) -- 0x09 MOV B, imm8 (R114)
  | movB_atAddr (addr16 : Word) -- 0x0D MOV B, [addr16] (R118)
  | movB_atABdisp (disp16 : Word) -- 0x10 MOV B, [AB+disp16] (R121)
  | movB_atCDdisp (disp16 : Word) -- 0x11 MOV B, [CD+disp16] (R122)
  | movC_imm8 (imm8 : Byte) -- 0x12 MOV C, imm8 (R123)
  | movC_atAddr (addr16 : Word) -- 0x16 MOV C, [addr16] (R127)
  | movC_atABdisp (disp16 : Word) -- 0x19 MOV C, [AB+disp16] (R130)
  | movC_atCDdisp (disp16 : Word) -- 0x1A MOV C, [CD+disp16] (R131)
  | movD_imm8 (imm8 : Byte) -- 0x1B MOV D, imm8 (R132)
  | movD_atAddr (addr16 : Word) -- 0x1F MOV D, [addr16] (R136)
  | movD_atABdisp (disp16 : Word) -- 0x22 MOV D, [AB+disp16] (R139)
  | movD_atCDdisp (disp16 : Word) -- 0x23 MOV D, [CD+disp16] (R140)
  | movAtAddr_A (addr16 : Word) -- 0x24 MOV [addr16], A (R141)
  | movAtAddr_B (addr16 : Word) -- 0x25 MOV [addr16], B (R142)
  | movAtAddr_C (addr16 : Word) -- 0x26 MOV [addr16], C (R143)
  | movAtAddr_D (addr16 : Word) -- 0x27 MOV [addr16], D (R144)
  | movAtABdisp_C (disp16 : Word) -- 0x2C MOV [AB+disp16], C (R149)
  | movAtABdisp_D (disp16 : Word) -- 0x2D MOV [AB+disp16], D (R150)
  | movAtCDdisp_A (disp16 : Word) -- 0x2E MOV [CD+disp16], A (R151)
  | movAtCDdisp_B (disp16 : Word) -- 0x2F MOV [CD+disp16], B (R152)
  | movAtAddr_imm8 (addr16 : Word) (imm8 : Byte) -- 0x30 MOV [addr16], imm8 (R153)
  | movAB_imm16 (imm16 : Word) -- 0x31 MOV AB, imm16 (R163)
  | movAB_atAddr (addr16 : Word) -- 0x32 MOV AB, [addr16] (R164)
  | movAB_atABdisp (disp16 : Word) -- 0x35 MOV AB, [AB+disp16] (R167)
  | movAB_atCDdisp (disp16 : Word) -- 0x36 MOV AB, [CD+disp16] (R168)
  | movCD_imm16 (imm16 : Word) -- 0x39 MOV CD, imm16 (R171)
  | movCD_atAddr (addr16 : Word) -- 0x3A MOV CD, [addr16] (R172)
  | movCD_atABdisp (disp16 : Word) -- 0x3D MOV CD, [AB+disp16] (R175)
  | movCD_atCDdisp (disp16 : Word) -- 0x3E MOV CD, [CD+disp16] (R176)
  | movSP_imm16 (imm16 : Word) -- 0x41 MOV SP, imm16 (R179)
  | movSP_atAddr (addr16 : Word) -- 0x42 MOV SP, [addr16] (R180)
  | movAtAddr_AB (addr16 : Word) -- 0x45 MOV [addr16], AB (R183)
  | movAtAddr_CD (addr16 : Word) -- 0x46 MOV [addr16], CD (R184)
  | movAtAddr_SP (addr16 : Word) -- 0x47 MOV [addr16], SP (R185)
  | movAtABdisp_CD (disp16 : Word) -- 0x4A MOV [AB+disp16], CD (R188)
  | movAtCDdisp_AB (disp16 : Word) -- 0x4B MOV [CD+disp16], AB (R189)
  | pushAtAddr (addr16 : Word) -- 0x55 PUSH [addr16] (R204)
  | popAtAddr (addr16 : Word) -- 0x5B POP [addr16] (R210)
  | decAtAddr (addr16 : Word) -- 0x64 DEC [addr16] (R229)
  | incAtAddr (addr16 : Word) -- 0x69 INC [addr16] (R234)
  | subA_imm8 (imm8 : Byte) -- 0x82 SUB A, imm8 (R275)
  | subB_imm8 (imm8 : Byte) -- 0x86 SUB B, imm8 (R279)
  | addA_imm8 (imm8 : Byte) -- 0x8A ADD A, imm8 (R283)
  | addB_imm8 (imm8 : Byte) -- 0x8E ADD B, imm8 (R287)
  | sbbA_imm8 (imm8 : Byte) -- 0x92 SBB A, imm8 (R291)
  | sbbB_imm8 (imm8 : Byte) -- 0x96 SBB B, imm8 (R295)
  | adcA_imm8 (imm8 : Byte) -- 0x9A ADC A, imm8 (R299)
  | adcB_imm8 (imm8 : Byte) -- 0x9E ADC B, imm8 (R303)
  | cmpA_imm8 (imm8 : Byte) -- 0xA2 CMP A, imm8 (R307)
  | cmpB_imm8 (imm8 : Byte) -- 0xA6 CMP B, imm8 (R311)
  | andA_imm8 (imm8 : Byte) -- 0xAA AND A, imm8 (R315)
  | andB_imm8 (imm8 : Byte) -- 0xAE AND B, imm8 (R319)
  | xorA_imm8 (imm8 : Byte) -- 0xB2 XOR A, imm8 (R323)
  | xorB_imm8 (imm8 : Byte) -- 0xB6 XOR B, imm8 (R327)
  | orA_imm8 (imm8 : Byte) -- 0xBA OR A, imm8 (R331)
  | orB_imm8 (imm8 : Byte) -- 0xBE OR B, imm8 (R335)
  | addAB_imm16 (imm16 : Word) -- 0xC2 ADD AB, imm16 (R345)
  | addCD_imm16 (imm16 : Word) -- 0xC4 ADD CD, imm16 (R347)
  | addSP_imm16 (imm16 : Word) -- 0xC6 ADD SP, imm16 (R349)
  | subAB_imm16 (imm16 : Word) -- 0xC9 SUB AB, imm16 (R352)
  | subCD_imm16 (imm16 : Word) -- 0xCB SUB CD, imm16 (R354)
  | subSP_imm16 (imm16 : Word) -- 0xCD SUB SP, imm16 (R356)
  | jr_rel8 (rel8 : Byte) -- 0xD5 JR rel8 (R374)
  | js_rel8 (rel8 : Byte) -- 0xD8 JS rel8 (R377)
  | jp_rel8 (rel8 : Byte) -- 0xD9 JP rel8 (R378)
  | jo_rel8 (rel8 : Byte) -- 0xDA JO rel8 (R379)
  | jc_rel8 (rel8 : Byte) -- 0xDB JC rel8 (R380)
  | jz_rel8 (rel8 : Byte) -- 0xDC JZ rel8 (R381)
  | jns_rel8 (rel8 : Byte) -- 0xDD JNS rel8 (R382)
  | jnp_rel8 (rel8 : Byte) -- 0xDE JNP rel8 (R383)
  | jno_rel8 (rel8 : Byte) -- 0xDF JNO rel8 (R384)
  | jnc_rel8 (rel8 : Byte) -- 0xE0 JNC rel8 (R385)
  | jnz_rel8 (rel8 : Byte) -- 0xE1 JNZ rel8 (R386)
  | jzc_rel8 (rel8 : Byte) -- 0xE2 JZC rel8 (R387)
  | jso_rel8 (rel8 : Byte) -- 0xE3 JSO rel8 (R388)
  | jsonz_rel8 (rel8 : Byte) -- 0xE4 JSONZ rel8 (R389)
  | jnzc_rel8 (rel8 : Byte) -- 0xE5 JNZC rel8 (R390)
  | jnso_rel8 (rel8 : Byte) -- 0xE6 JNSO rel8 (R391)
  | jznso_rel8 (rel8 : Byte) -- 0xE7 JZNSO rel8 (R392)
  | jeqzA_rel8 (rel8 : Byte) -- 0xE8 JEQZ A, rel8 (R393)
  | jeqzB_rel8 (rel8 : Byte) -- 0xE9 JEQZ B, rel8 (R394)
  | jeqzC_rel8 (rel8 : Byte) -- 0xEA JEQZ C, rel8 (R395)
  | jeqzD_rel8 (rel8 : Byte) -- 0xEB JEQZ D, rel8 (R396)
  | jneqzA_rel8 (rel8 : Byte) -- 0xEC JNEQZ A, rel8 (R397)
  | jneqzB_rel8 (rel8 : Byte) -- 0xED JNEQZ B, rel8 (R398)
  | jneqzC_rel8 (rel8 : Byte) -- 0xEE JNEQZ C, rel8 (R399)
  | jneqzD_rel8 (rel8 : Byte) -- 0xEF JNEQZ D, rel8 (R400)
  | loopA_rel8 (rel8 : Byte) -- 0xF0 LOOP A, rel8 (R401)
  | loopB_rel8 (rel8 : Byte) -- 0xF1 LOOP B, rel8 (R402)
  | loopC_rel8 (rel8 : Byte) -- 0xF2 LOOP C, rel8 (R403)
  | loopD_rel8 (rel8 : Byte) -- 0xF3 LOOP D, rel8 (R404)
  | jmp_imm16 (imm16 : Word) -- 0xF4 JMP imm16 (R405)
  | call_imm16 (imm16 : Word) -- 0xF7 CALL imm16 (R408)
  -- without operand bytes: format F0
  | movA_B -- 0x01 MOV A, B (R106)
  | movA_C -- 0x02 MOV A, C (R107)
  | movA_D -- 0x03 MOV A, D (R108)
  | movA_atAB -- 0x05 MOV A, [AB] (R110)
  | movA_atCD -- 0x06 MOV A, [CD] (R111)
  | movB_A -- 0x0A MOV B, A (R115)
  | movB_C -- 0x0B MOV B, C (R116)
  | movB_D -- 0x0C MOV B, D (R117)
  | movB_atAB -- 0x0E MOV B, [AB] (R119)
  | movB_atCD -- 0x0F MOV B, [CD] (R120)
  | movC_A -- 0x13 MOV C, A (R124)
  | movC_B -- 0x14 MOV C, B (R125)
  | movC_D -- 0x15 MOV C, D (R126)
  | movC_atAB -- 0x17 MOV C, [AB] (R128)
  | movC_atCD -- 0x18 MOV C, [CD] (R129)
  | movD_A -- 0x1C MOV D, A (R133)
  | movD_B -- 0x1D MOV D, B (R134)
  | movD_C -- 0x1E MOV D, C (R135)
  | movD_atAB -- 0x20 MOV D, [AB] (R137)
  | movD_atCD -- 0x21 MOV D, [CD] (R138)
  | movAtAB_C -- 0x28 MOV [AB], C (R145)
  | movAtAB_D -- 0x29 MOV [AB], D (R146)
  | movAtCD_A -- 0x2A MOV [CD], A (R147)
  | movAtCD_B -- 0x2B MOV [CD], B (R148)
  | movAB_atAB -- 0x33 MOV AB, [AB] (R165)
  | movAB_atCD -- 0x34 MOV AB, [CD] (R166)
  | movAB_CD -- 0x37 MOV AB, CD (R169)
  | movAB_SP -- 0x38 MOV AB, SP (R170)
  | movCD_atAB -- 0x3B MOV CD, [AB] (R173)
  | movCD_atCD -- 0x3C MOV CD, [CD] (R174)
  | movCD_AB -- 0x3F MOV CD, AB (R177)
  | movCD_SP -- 0x40 MOV CD, SP (R178)
  | movSP_AB -- 0x43 MOV SP, AB (R181)
  | movSP_CD -- 0x44 MOV SP, CD (R182)
  | movAtAB_CD -- 0x48 MOV [AB], CD (R186)
  | movAtCD_AB -- 0x49 MOV [CD], AB (R187)
  | inA -- 0x4C IN A (R195)
  | inB -- 0x4D IN B (R196)
  | outA -- 0x4E OUT A (R197)
  | outB -- 0x4F OUT B (R198)
  | pushA -- 0x50 PUSH A (R199)
  | pushB -- 0x51 PUSH B (R200)
  | pushC -- 0x52 PUSH C (R201)
  | pushD -- 0x53 PUSH D (R202)
  | pushF -- 0x54 PUSH F (R203)
  | popA -- 0x56 POP A (R205)
  | popB -- 0x57 POP B (R206)
  | popC -- 0x58 POP C (R207)
  | popD -- 0x59 POP D (R208)
  | popF -- 0x5A POP F (R209)
  | pushAB -- 0x5C PUSH AB (R211)
  | pushCD -- 0x5D PUSH CD (R212)
  | popAB -- 0x5E POP AB (R213)
  | popCD -- 0x5F POP CD (R214)
  | decA -- 0x60 DEC A (R225)
  | decB -- 0x61 DEC B (R226)
  | decC -- 0x62 DEC C (R227)
  | decD -- 0x63 DEC D (R228)
  | incA -- 0x65 INC A (R230)
  | incB -- 0x66 INC B (R231)
  | incC -- 0x67 INC C (R232)
  | incD -- 0x68 INC D (R233)
  | decAB -- 0x6A DEC AB (R235)
  | decCD -- 0x6B DEC CD (R236)
  | decSP -- 0x6C DEC SP (R237)
  | incAB -- 0x6D INC AB (R238)
  | incCD -- 0x6E INC CD (R239)
  | incSP -- 0x6F INC SP (R240)
  | notA -- 0x70 NOT A (R241)
  | notB -- 0x71 NOT B (R242)
  | negA -- 0x72 NEG A (R243)
  | negB -- 0x73 NEG B (R244)
  | shlA -- 0x74 SHL A (R245)
  | shlB -- 0x75 SHL B (R246)
  | shrA -- 0x76 SHR A (R247)
  | shrB -- 0x77 SHR B (R248)
  | rlA -- 0x78 RL A (R249)
  | rlB -- 0x79 RL B (R250)
  | rrA -- 0x7A RR A (R251)
  | rrB -- 0x7B RR B (R252)
  | notAB -- 0x7C NOT AB (R253)
  | negAB -- 0x7D NEG AB (R254)
  | shlAB -- 0x7E SHL AB (R255)
  | shrAB -- 0x7F SHR AB (R256)
  | rlAB -- 0x80 RL AB (R257)
  | rrAB -- 0x81 RR AB (R258)
  | subA_B -- 0x83 SUB A, B (R276)
  | subA_C -- 0x84 SUB A, C (R277)
  | subA_D -- 0x85 SUB A, D (R278)
  | subB_A -- 0x87 SUB B, A (R280)
  | subB_C -- 0x88 SUB B, C (R281)
  | subB_D -- 0x89 SUB B, D (R282)
  | addA_B -- 0x8B ADD A, B (R284)
  | addA_C -- 0x8C ADD A, C (R285)
  | addA_D -- 0x8D ADD A, D (R286)
  | addB_A -- 0x8F ADD B, A (R288)
  | addB_C -- 0x90 ADD B, C (R289)
  | addB_D -- 0x91 ADD B, D (R290)
  | sbbA_B -- 0x93 SBB A, B (R292)
  | sbbA_C -- 0x94 SBB A, C (R293)
  | sbbA_D -- 0x95 SBB A, D (R294)
  | sbbB_A -- 0x97 SBB B, A (R296)
  | sbbB_C -- 0x98 SBB B, C (R297)
  | sbbB_D -- 0x99 SBB B, D (R298)
  | adcA_B -- 0x9B ADC A, B (R300)
  | adcA_C -- 0x9C ADC A, C (R301)
  | adcA_D -- 0x9D ADC A, D (R302)
  | adcB_A -- 0x9F ADC B, A (R304)
  | adcB_C -- 0xA0 ADC B, C (R305)
  | adcB_D -- 0xA1 ADC B, D (R306)
  | cmpA_B -- 0xA3 CMP A, B (R308)
  | cmpA_C -- 0xA4 CMP A, C (R309)
  | cmpA_D -- 0xA5 CMP A, D (R310)
  | cmpB_A -- 0xA7 CMP B, A (R312)
  | cmpB_C -- 0xA8 CMP B, C (R313)
  | cmpB_D -- 0xA9 CMP B, D (R314)
  | andA_B -- 0xAB AND A, B (R316)
  | andA_C -- 0xAC AND A, C (R317)
  | andA_D -- 0xAD AND A, D (R318)
  | andB_A -- 0xAF AND B, A (R320)
  | andB_C -- 0xB0 AND B, C (R321)
  | andB_D -- 0xB1 AND B, D (R322)
  | xorA_B -- 0xB3 XOR A, B (R324)
  | xorA_C -- 0xB4 XOR A, C (R325)
  | xorA_D -- 0xB5 XOR A, D (R326)
  | xorB_A -- 0xB7 XOR B, A (R328)
  | xorB_C -- 0xB8 XOR B, C (R329)
  | xorB_D -- 0xB9 XOR B, D (R330)
  | orA_B -- 0xBB OR A, B (R332)
  | orA_C -- 0xBC OR A, C (R333)
  | orA_D -- 0xBD OR A, D (R334)
  | orB_A -- 0xBF OR B, A (R336)
  | orB_C -- 0xC0 OR B, C (R337)
  | orB_D -- 0xC1 OR B, D (R338)
  | addAB_CD -- 0xC3 ADD AB, CD (R346)
  | addCD_AB -- 0xC5 ADD CD, AB (R348)
  | addSP_AB -- 0xC7 ADD SP, AB (R350)
  | addSP_CD -- 0xC8 ADD SP, CD (R351)
  | subAB_CD -- 0xCA SUB AB, CD (R353)
  | subCD_AB -- 0xCC SUB CD, AB (R355)
  | subSP_AB -- 0xCE SUB SP, AB (R357)
  | subSP_CD -- 0xCF SUB SP, CD (R358)
  | mulA_D -- 0xD0 MUL A, D (R359)
  | imulA_D -- 0xD1 IMUL A, D (R360)
  | divAB_D -- 0xD2 DIV AB, D (R361)
  | idivAB_D -- 0xD3 IDIV AB, D (R362)
  | expA_B -- 0xD4 EXP A, B (R363)
  | jrA -- 0xD6 JR A (R375)
  | jrB -- 0xD7 JR B (R376)
  | jmpAB -- 0xF5 JMP AB (R406)
  | jmpCD -- 0xF6 JMP CD (R407)
  | callAB -- 0xF8 CALL AB (R409)
  | callCD -- 0xF9 CALL CD (R410)
  | ret -- 0xFA RET (R411)
  | clc -- 0xFB CLC (R421)
  | cmc -- 0xFC CMC (R422)
  | stc -- 0xFD STC (R423)
  | halt -- 0xFE HALT (R424)
  | nop -- 0xFF NOP (R425)
deriving DecidableEq, Repr

end Sys2Proof
end

