-- ==== Sys2Proof/Config.lean ====
section
/-! DEFINITION. The parameters of spec/00_scope.md R3: a type for each, the configuration that holds one value of each, and the
free values. Every definition of the machine takes a configuration as an argument. The configuration the spec decided,
`Config.spec`, stands in Sys2Proof/Machine/Parameters.lean (notes/assumptions/1.md). -/

namespace Sys2Proof

/-- `OPCODE_MAP` (R70, D1): a bijection from the row's place in the list of R70 (0 to 255) to its opcode byte. -/
abbrev OpcodeMap := Equiv.Perm Byte

/-- `OPERAND_LAYOUT` (R61, D2): the order of the operands after the opcode; only the format `F3` has two. -/
inductive OperandLayout
  | addressFirst
  | immediateFirst
deriving DecidableEq, Repr

/-- `BYTE_ORDER` (R40, R64, D3): which half of a 16-bit value lies at the lower address. -/
inductive ByteOrder
  | bigEndian
  | littleEndian
deriving DecidableEq, Repr

/-- `ADDR_FORMS` (R66 to R69, D4): the address each of the five addressing forms names, from the general registers at the start of the
instruction. That there are five, one without a register and two for each pair, is the source's. -/
abbrev AddrForms := AddrForm → (Reg → Byte) → Word

/-- `DISP_WIDTH` (R69, D5): how wide the displacement in the instruction is, and how a displacement of 8 bits is extended. -/
inductive DispWidth
  | bits16
  | bits8Signed
  | bits8Unsigned
deriving DecidableEq, Repr

/-- The direction in which the stack grows (R51, D6). -/
inductive StackDirection
  | towardLower
  | towardHigher
deriving DecidableEq, Repr

/-- What `SP` holds the address of (R51, D6). -/
inductive StackPointerHolds
  | lastPushed
  | nextFree
deriving DecidableEq, Repr

/-- `STACK_DISCIPLINE` (R51 to R54, D6). -/
structure StackDiscipline where
  direction : StackDirection
  holds : StackPointerHolds
deriving DecidableEq, Repr

/-- `F_LAYOUT` (R17, D7): the bit of the byte `F` that each flag has. -/
structure FlagLayout where
  sign : Nat
  parity : Nat
  overflow : Nat
  carry : Nat
  zero : Nat
deriving DecidableEq, Repr

/-- What an instruction does to one flag (R19): writes what the row's rule computes, keeps it (`-` in the table), clears it, sets
it, or leaves it unspecified. -/
inductive FlagEffect
  | computed
  | kept
  | cleared
  | set
  | unspecified
deriving DecidableEq, Repr

/-- One row of the table of R19. -/
structure FlagEffects where
  sign : FlagEffect
  parity : FlagEffect
  overflow : FlagEffect
  carry : FlagEffect
  zero : FlagEffect
deriving DecidableEq, Repr

/-- The rows of the table of R19 that are arithmetic and logic instructions, in its order. -/
inductive FlagRow
  | addition
  | subtraction
  | negation
  | increment
  | decrement
  | logic
  | complement
  | shiftLeft
  | shiftRight
  | rotateLeft
  | rotateRight
  | unsignedProduct
  | signedProduct
  | division
  | signExpansion
deriving DecidableEq, Repr

/-- `FLAG_POLICY` (R19, D8): the table. -/
abbrev FlagPolicy := FlagRow → FlagEffects

/-- `PARITY_SENSE` (R20, D8): which parity of the number of one bits sets `P`. -/
inductive ParitySense
  | even
  | odd
deriving DecidableEq, Repr

/-- `ROTATE_KIND` (R27, D9): whether `RL` and `RR` rotate the operand alone or through the carry. -/
inductive RotateKind
  | operandAlone
  | throughCarry
deriving DecidableEq, Repr

/-- `DIV_FAULT` (R501, D10): what `DIV` and `IDIV` do where there is no result: they raise `DivideError`, or they go on with a
quotient and a remainder that the configuration gives for the operands (the alternative of D10's note), one function each. -/
inductive DivFault
  | divideError
  | goesOn (unsigned signed : Word → Byte → Byte × Byte)

/-- `REL_BASE` (R371, D11 and its note): what a relative offset is added to. -/
inductive RelBase
  | nextInstruction
  | branchOpcode
deriving DecidableEq, Repr

/-- What `IN` does when the environment has supplied no byte (R32, D12): it takes a free byte, the `n`-th being `draw n`, or it
waits, the machine keeping its state. -/
inductive EmptyInput
  | freeByte (draw : Nat → Byte)
  | waits

/-- What becomes of the byte of `OUT` (R32, D12). -/
inductive OutputUse
  | traced
  | dropped
deriving DecidableEq, Repr

/-- `IO_MODEL` (R32, D12): the one peripheral. -/
structure IoModel where
  emptyInput : EmptyInput
  outputUse : OutputUse

/-- `HALT_PC` (R424, D13): the value of `IP` after `HALT`. -/
inductive HaltPc
  | afterOpcode
  | atOpcode
deriving DecidableEq, Repr

/-- `RESET_STATE` (R34, R520, D14; 93_implementation_defined.md U1: "lets a host supply a concrete initial state
instead"): the values after reset of what the spec leaves unspecified there. A memory position that `mem` does not list holds no
value; its addresses rise strictly. -/
structure ResetState where
  a : Byte
  b : Byte
  c : Byte
  d : Byte
  sp : Word
  sign : Bool
  parity : Bool
  overflow : Bool
  carry : Bool
  zero : Bool
  mem : List Host.Cell
deriving DecidableEq, Repr

/-- One value for each row of the table of R3 marked "parameter", in its order. -/
structure Config where
  opcodeMap : OpcodeMap
  operandLayout : OperandLayout
  byteOrder : ByteOrder
  addrForms : AddrForms
  dispWidth : DispWidth
  stackDiscipline : StackDiscipline
  flagLayout : FlagLayout
  flagPolicy : FlagPolicy
  paritySense : ParitySense
  rotateKind : RotateKind
  divFault : DivFault
  relBase : RelBase
  ioModel : IoModel
  haltPc : HaltPc
  /-- `RESET_PC` (R34, D14): the value of `IP` after reset -/
  resetPc : Word
  resetState : ResetState
  /-- `MEM_MAP` (R45, D15): whether an address is read-write memory -/
  memMap : Word → Bool

/-- The `n`-th flag that an instruction leaves unspecified (R28, R29; U2, U3): a free value, nothing is known of it.
DESIGN CHOICE, safe (notes/assumptions/3.md). -/
opaque Config.freeFlag : Nat → Bool

/-- The `n`-th byte the environment supplies to `IN` (R32, D12; U6): a free value, nothing is known of it.
DESIGN CHOICE, safe (notes/assumptions/4.md). -/
opaque Config.freeInput : Nat → Byte

end Sys2Proof
end

