-- ==== Sys2Proof/Machine/Parameters.lean ====
section
/-! DEFINITION. The configuration the spec decided: the column "value" of the table of spec/00_scope.md R3. -/

namespace Sys2Proof

/-- R70, D1: the provisional numbering, each row's place in the list being its opcode. -/
def Config.provisionalOpcodes : OpcodeMap := Equiv.refl Byte

/-- The value of a pair (R11): the register named first is the more significant half. -/
def Config.pairValue (x : Reg → Byte) : Pair → Word
  | .AB => x .A ++ x .B
  | .CD => x .C ++ x .D

/-- R67, R68, R69, D4, D5: the five forms. -/
def Config.fiveForms : AddrForms
  | .direct addr16, _ => addr16
  | .implicit p, x => Config.pairValue x p
  | .indexed p disp16, x => Config.pairValue x p + disp16

/-- Every flag computed (R21, R22, R25, R26). -/
def Config.allComputed : FlagEffects :=
  { sign := .computed, parity := .computed, overflow := .computed, carry := .computed, zero := .computed }

/-- No flag written (R25, R363). -/
def Config.noneWritten : FlagEffects := { sign := .kept, parity := .kept, overflow := .kept, carry := .kept, zero := .kept }

/-- R19, D8: the table. -/
def Config.family8086Flags : FlagPolicy
  | .addition | .subtraction | .negation => Config.allComputed
  | .increment | .decrement => { Config.allComputed with carry := .kept }
  | .logic => { Config.allComputed with overflow := .cleared, carry := .cleared }
  | .complement => Config.noneWritten
  | .shiftLeft | .shiftRight => Config.allComputed
  | .rotateLeft | .rotateRight => { Config.noneWritten with overflow := .computed, carry := .computed }
  | .unsignedProduct | .signedProduct =>
    { Config.allComputed with sign := .unspecified, parity := .unspecified, zero := .unspecified }
  | .division =>
    { sign := .unspecified, parity := .unspecified, overflow := .unspecified, carry := .unspecified, zero := .unspecified }
  | .signExpansion => Config.noneWritten

/-- R34 gives these no value: registers and flags all zero, DESIGN CHOICE, unsafe (notes/assumptions/2.md); no memory position
holds a value (R35). -/
def Config.resetZero : ResetState :=
  { a := 0, b := 0, c := 0, d := 0, sp := 0,
    sign := false, parity := false, overflow := false, carry := false, zero := false, mem := [] }

/-- The value the spec decided for each parameter (R3). -/
def Config.spec : Config where
  -- `OPCODE_MAP` (R70, D1)
  opcodeMap := Config.provisionalOpcodes
  -- `OPERAND_LAYOUT` (R61, D2): the address comes before the immediate
  operandLayout := .addressFirst
  -- `BYTE_ORDER` (R40, R64, D3): the high byte at the lower address
  byteOrder := .bigEndian
  -- `ADDR_FORMS` (R66, D4)
  addrForms := Config.fiveForms
  -- `DISP_WIDTH` (R69, D5)
  dispWidth := .bits16
  -- `STACK_DISCIPLINE` (R51 to R54, D6): full descending
  stackDiscipline := { direction := .towardLower, holds := .lastPushed }
  -- `F_LAYOUT` (R17, D7)
  flagLayout := { sign := 4, parity := 3, overflow := 2, carry := 1, zero := 0 }
  -- `FLAG_POLICY` (R19, D8)
  flagPolicy := Config.family8086Flags
  -- `PARITY_SENSE` (R20, D8)
  paritySense := .even
  -- `ROTATE_KIND` (R27, D9)
  rotateKind := .operandAlone
  -- `DIV_FAULT` (R501, D10)
  divFault := .divideError
  -- `REL_BASE` (R371, D11)
  relBase := .nextInstruction
  -- `IO_MODEL` (R32, D12)
  ioModel := { emptyInput := .freeByte Config.freeInput, outputUse := .traced }
  -- `HALT_PC` (R424, D13)
  haltPc := .afterOpcode
  -- `RESET_PC` (R34, D14)
  resetPc := 0x0000
  -- `RESET_STATE` (R34, D14; notes/assumptions/2.md)
  resetState := Config.resetZero
  -- `MEM_MAP` (R45, D15): all 65536 addresses
  memMap := fun _ => true

end Sys2Proof
end

