-- ==== Sys2Proof/Machine/State.lean ====
section
/-! DEFINITION. The state of the machine (spec/10_state.md), the faults, the refusals, and the state after reset. -/

namespace Sys2Proof.Machine

/-- The five flags (R16); the byte `F` is a view of them (R17). -/
structure Flags where
  sign : Bool
  parity : Bool
  overflow : Bool
  carry : Bool
  zero : Bool
deriving DecidableEq, Repr

/-- The memory positions that hold a value (R31, R35), one entry each, addresses strictly rising. A position that is not
listed holds NO value: reading it is `Fault.unspecifiedRead` (R502; notes/assumptions/5.md, safe). -/
abbrev Memory := List Host.Cell

/-- The canonical form: addresses strictly rising, all below `MEM_SIZE` = 2^16. No entry can equal what an unlisted position
reads as, since that is no value. -/
abbrev Memory.wf (m : Memory) : Prop :=
  m.Pairwise (fun x y => x.1 < y.1) ∧ ∀ x ∈ m, x.1 < 65536

/-- What an unlisted position reads as: nothing (R34, R35). -/
def Memory.unlisted : Option Byte := none

/-- The architectural state (the table at the head of spec/10_state.md), and the model's own `flagDraws` and `inputDraws`. -/
structure State where
  /-- general registers `A`, `B`, `C`, `D` (R10); `AB` and `CD` are views (R11) -/
  a : Byte
  b : Byte
  c : Byte
  d : Byte
  /-- stack pointer `SP` (R12) -/
  sp : Word
  /-- instruction pointer `IP` (R13) -/
  ip : Word
  /-- the flags `S`, `P`, `O`, `C`, `Z` (R16) -/
  flags : Flags
  /-- memory (R31) -/
  mem : Memory
  /-- the bytes of the input stream that the environment has already supplied, next one first (R32); when it is empty `IN`
  takes a free byte -/
  input : List Byte
  /-- the output trace, first byte sent first (R32) -/
  output : List Byte
  /-- the stopped state (R33) -/
  halted : Bool
  /-- MODEL's own: how many free flags have been drawn -/
  flagDraws : Nat
  /-- MODEL's own: how many free input bytes have been drawn -/
  inputDraws : Nat
deriving DecidableEq, Repr

/-- Why a division has no result (R501). -/
inductive DivideCause
  | zero
  | overflow
deriving DecidableEq, Repr

/-- Where the machine stops: the model-level faults of R500, and the stuck state of a halted machine. -/
inductive Fault
  /-- `DivideError(zero)`, `DivideError(overflow)` (R501): raised by `DIV` and `IDIV` before they write anything. Safe. -/
  | divideError (cause : DivideCause)
  /-- `UnspecifiedRead` (R502): an instruction or its fetch reads a memory position that holds no value. Safe. -/
  | unspecifiedRead (address : Word)
  /-- The machine is halted (R33, R512; U17 "stuck by design"): raised by `step` alone. Safe. -/
  | halted
deriving DecidableEq, Repr

/-- Where the model declines to answer. -/
inductive Refusal
  /-- An instruction whose meaning is not written: raised by an arm of `exec` alone. Safe. -/
  | notModelled (mnemonic : String)
  /-- The bytes fetched are no instruction: raised by the fetch alone. R71 says there is no such byte, and under every
  `OPCODE_MAP` there is none. Safe. -/
  | undecodable (opcode : Byte)
  /-- An access outside `MEM_MAP` (R45, U8 `refuse`): raised by a memory access. The spec's map admits every address, so under
  it there is none. Safe. -/
  | outsideMemMap (address : Word)
deriving DecidableEq, Repr

/-- The state after reset (R34, R520): `IP` = `RESET_PC`, what `RESET_STATE` gives, not halted, output trace empty, no byte of
the input stream supplied. The host loads the program image before the first step (R521). -/
def State.resetWith (cfg : Config) : State :=
  let r := cfg.resetState
  { a := r.a, b := r.b, c := r.c, d := r.d, sp := r.sp, ip := cfg.resetPc,
    flags := { sign := r.sign, parity := r.parity, overflow := r.overflow, carry := r.carry, zero := r.zero },
    mem := r.mem, input := [], output := [], halted := false, flagDraws := 0, inputDraws := 0 }

/-- The machine right after reset, under the configuration of the spec. -/
def State.reset : State := State.resetWith Config.spec

end Sys2Proof.Machine
end

