-- ==== Sys2Proof/Machine/Flags.lean ====
section
/-! DEFINITION. What the arithmetic and logic instructions compute for the flags, one definition per row of the table of
spec/10_state.md R19 by R20 to R29, and the writing of the flags under `FLAG_POLICY`. Each gives the result and ALL five flags: which
of them are written the policy says. What a rule names no value for (under the spec's policy such a flag is not written) is
computed from the result as the other rules do, DESIGN CHOICE (notes/assumptions/1.md). -/

namespace Sys2Proof.Machine

/-- `popcount(res[7:0])` (R4, R20). -/
def popcountLow8 {w : Nat} (res : BitVec w) : Nat :=
  ((List.range 8).filter fun i => res.getLsbD i).length

/-- The parity flag of a result (R20, `PARITY_SENSE`): of its low 8 bits, whatever its width. -/
def parityFlag (cfg : Config) {w : Nat} (res : BitVec w) : Bool :=
  match cfg.paritySense with
  | .even => popcountLow8 res % 2 == 0
  | .odd => popcountLow8 res % 2 == 1

/-- `szp_W(res)` (R20), with the given `C` and `O`. -/
def flagsOf (cfg : Config) {w : Nat} (res : BitVec w) (carry overflow : Bool) : Flags :=
  { sign := res.msb, parity := parityFlag cfg res, overflow := overflow, carry := carry, zero := res == 0 }

/-- `flags_add_W(a, b, cin)` (R21). -/
def flagsAdd (cfg : Config) {w : Nat} (a b : BitVec w) (cin : Bool) : BitVec w × Flags :=
  let full := a.toNat + b.toNat + cin.toNat
  let res := BitVec.ofNat w full
  (res, flagsOf cfg res (decide (2 ^ w ≤ full)) (a.msb == b.msb && res.msb != a.msb))

/-- `flags_sub_W(a, b, bin)` (R22). -/
def flagsSub (cfg : Config) {w : Nat} (a b : BitVec w) (bin : Bool) : BitVec w × Flags :=
  let full : Int := (a.toNat : Int) - (b.toNat : Int) - (bin.toNat : Int)
  let res := BitVec.ofInt w full
  (res, flagsOf cfg res (decide (full < 0)) (a.msb != b.msb && res.msb != a.msb))

/-- `flags_inc_W(a)` (R23); `C` as R21 computes it. -/
def flagsInc (cfg : Config) {w : Nat} (a : BitVec w) : BitVec w × Flags :=
  let res := BitVec.ofNat w (a.toNat + 1)
  (res, flagsOf cfg res (decide (2 ^ w ≤ a.toNat + 1)) (res == BitVec.ofNat w (2 ^ (w - 1))))

/-- `flags_dec_W(a)` (R23); `C` as R22 computes it. -/
def flagsDec (cfg : Config) {w : Nat} (a : BitVec w) : BitVec w × Flags :=
  let res := BitVec.ofInt w ((a.toNat : Int) - 1)
  (res, flagsOf cfg res (decide (a.toNat < 1)) (res == BitVec.ofNat w (2 ^ (w - 1) - 1)))

/-- `flags_logic_W(res)` (R24). -/
def flagsLogic (cfg : Config) {w : Nat} (res : BitVec w) : BitVec w × Flags :=
  (res, flagsOf cfg res false false)

/-- `NOT` (R25); the flags as R24 computes them. -/
def flagsNot (cfg : Config) {w : Nat} (a : BitVec w) : BitVec w × Flags :=
  flagsLogic cfg (a ^^^ BitVec.ofNat w (2 ^ w - 1))

/-- `NEG` (R25): the subtraction `0 - a`. -/
def flagsNeg (cfg : Config) {w : Nat} (a : BitVec w) : BitVec w × Flags :=
  flagsSub cfg 0 a false

/-- `flags_shl_W(a)` (R26). -/
def flagsShl (cfg : Config) {w : Nat} (a : BitVec w) : BitVec w × Flags :=
  let res := BitVec.ofNat w (a.toNat * 2)
  (res, flagsOf cfg res a.msb (res.msb ^^ a.msb))

/-- `flags_shr_W(a)` (R26): a logical shift. -/
def flagsShr (cfg : Config) {w : Nat} (a : BitVec w) : BitVec w × Flags :=
  let res := BitVec.ofNat w (a.toNat / 2)
  (res, flagsOf cfg res (a.getLsbD 0) a.msb)

/-- The bit that enters a rotation: the bit that wraps, or the carry (R27, `ROTATE_KIND`). -/
def rotateIn (cfg : Config) (wrapped carry : Bool) : Bool :=
  match cfg.rotateKind with
  | .operandAlone => wrapped
  | .throughCarry => carry

/-- `flags_rl_W(a)` (R27), `carry` being the old `C`; `S`, `P`, `Z` as R20 computes them. -/
def flagsRl (cfg : Config) {w : Nat} (a : BitVec w) (carry : Bool) : BitVec w × Flags :=
  let res := BitVec.ofNat w (a.toNat * 2 % 2 ^ w + (rotateIn cfg a.msb carry).toNat)
  (res, flagsOf cfg res a.msb (res.msb ^^ a.msb))

/-- `flags_rr_W(a)` (R27), `carry` being the old `C`; `S`, `P`, `Z` as R20 computes them. -/
def flagsRr (cfg : Config) {w : Nat} (a : BitVec w) (carry : Bool) : BitVec w × Flags :=
  let res := BitVec.ofNat w (a.toNat / 2 + (rotateIn cfg (a.getLsbD 0) carry).toNat * 2 ^ (w - 1))
  (res, flagsOf cfg res (a.getLsbD 0) (res.msb ^^ res.getLsbD (w - 2)))

/-- The flags of `MUL` and `IMUL` (R28), `wide` being what the rule gives `C` and `O`; `S`, `P`, `Z` as R20 computes them. -/
def flagsMul (cfg : Config) (product : Word) (wide : Bool) : Flags := flagsOf cfg product wide wide

/-! ### The writing of the flags (R19, `FLAG_POLICY`) -/

/-- How many free flags an effect draws: one where it is unspecified. -/
def effectDraws : FlagEffect → Nat
  | .unspecified => 1
  | _ => 0

/-- The flag after an effect; an unspecified one is the `n`-th free flag (notes/assumptions/3.md). -/
def applyEffect (e : FlagEffect) (computed old : Bool) (n : Nat) : Bool :=
  match e with
  | .computed => computed
  | .kept => old
  | .cleared => false
  | .set => true
  | .unspecified => Config.freeFlag n

/-- How many free flags a row draws. -/
def rowDraws (e : FlagEffects) : Nat :=
  effectDraws e.sign + effectDraws e.parity + effectDraws e.overflow + effectDraws e.carry + effectDraws e.zero

/-- The flags after a row's effects, the unspecified ones drawn from the `n`-th on in the order `S`, `P`, `O`, `C`, `Z`. -/
def applyRow (e : FlagEffects) (computed old : Flags) (n : Nat) : Flags :=
  let p := n + effectDraws e.sign
  let o := p + effectDraws e.parity
  let c := o + effectDraws e.overflow
  let z := c + effectDraws e.carry
  { sign := applyEffect e.sign computed.sign old.sign n
    parity := applyEffect e.parity computed.parity old.parity p
    overflow := applyEffect e.overflow computed.overflow old.overflow o
    carry := applyEffect e.carry computed.carry old.carry c
    zero := applyEffect e.zero computed.zero old.zero z }

/-- An arithmetic or logic instruction writes the flags: those its row says, the others stay (R19). -/
def State.writeFlags (cfg : Config) (row : FlagRow) (computed : Flags) (s : State) : State :=
  { s with
    flags := applyRow (cfg.flagPolicy row) computed s.flags s.flagDraws
    flagDraws := s.flagDraws + rowDraws (cfg.flagPolicy row) }

/-! ### The byte `F` (R17) -/

/-- One bit at a place of a byte (R17). -/
def bitAt (place : Nat) (v : Bool) : Byte := BitVec.ofNat 8 (v.toNat * 2 ^ place)

/-- The byte `F` (R17, `F_LAYOUT`): the bits that are no flag are 0. -/
def packFlags (cfg : Config) (f : Flags) : Byte :=
  bitAt cfg.flagLayout.sign f.sign ||| bitAt cfg.flagLayout.parity f.parity |||
    bitAt cfg.flagLayout.overflow f.overflow ||| bitAt cfg.flagLayout.carry f.carry |||
    bitAt cfg.flagLayout.zero f.zero

/-- The flags of a byte `F` (R17, `F_LAYOUT`): the bits that are no flag are ignored. -/
def unpackFlags (cfg : Config) (v : Byte) : Flags :=
  { sign := v.getLsbD cfg.flagLayout.sign, parity := v.getLsbD cfg.flagLayout.parity,
    overflow := v.getLsbD cfg.flagLayout.overflow, carry := v.getLsbD cfg.flagLayout.carry,
    zero := v.getLsbD cfg.flagLayout.zero }

end Sys2Proof.Machine
end

