-- ==== Sys2Proof/Machine/Bits.lean ====
section
/-! DEFINITION. The halves of a 16-bit value, its byte order, sign extension (spec/00_scope.md R4), and the displacement of
the indexed forms as instruction bytes (spec/30_encoding.md R69). -/

namespace Sys2Proof

/-- `v[15:8]` (R4). -/
def hiByte (v : Word) : Byte := v.extractLsb' 8 8

/-- `v[7:0]` (R4). -/
def loByte (v : Word) : Byte := v.extractLsb' 0 8

/-- `sext_16(v)` (R4): the source's "expandido para 16 bits preservando o sinal". -/
def sext16 (v : Byte) : Word := v.signExtend 16

/-- The byte of a 16-bit value that lies at the lower address (R40). -/
def firstByte (cfg : Config) (v : Word) : Byte :=
  match cfg.byteOrder with
  | .bigEndian => hiByte v
  | .littleEndian => loByte v

/-- The byte of a 16-bit value that lies at the higher address (R40). -/
def secondByte (cfg : Config) (v : Word) : Byte :=
  match cfg.byteOrder with
  | .bigEndian => loByte v
  | .littleEndian => hiByte v

/-- The 16-bit value whose byte at the lower address is `first` (R40, R64). -/
def joinBytes (cfg : Config) (first second : Byte) : Word :=
  match cfg.byteOrder with
  | .bigEndian => first ++ second
  | .littleEndian => second ++ first

/-- The instruction bytes of a displacement (R64, R69, `DISP_WIDTH`). -/
def displacementBytes (cfg : Config) (disp16 : Word) : List Byte :=
  match cfg.dispWidth with
  | .bits16 => [firstByte cfg disp16, secondByte cfg disp16]
  | .bits8Signed | .bits8Unsigned => [loByte disp16]

/-- The displacement at the head of the bytes after the opcode, extended to 16 bits (R64, R69, `DISP_WIDTH`). -/
def displacementOf (cfg : Config) (bytes : List Byte) : Option Word :=
  match cfg.dispWidth, bytes with
  | .bits16, b1 :: b2 :: _ => some (joinBytes cfg b1 b2)
  | .bits8Signed, b1 :: _ => some (sext16 b1)
  | .bits8Unsigned, b1 :: _ => some (b1.zeroExtend 16)
  | _, _ => none

/-- The length of an instruction with an indexed operand (R61, R62, `DISP_WIDTH`). -/
def indexedLength (cfg : Config) : Word :=
  match cfg.dispWidth with
  | .bits16 => 3
  | .bits8Signed | .bits8Unsigned => 2

end Sys2Proof
end

