-- ==== Sys2Proof/Machine/Ops.lean ====
section
/-! DEFINITION. The named operations over registers, memory, the stack, the peripheral and `IP`, which every meaning uses. Those
that depend on a parameter take the configuration first. The machine takes no exception and returns from none (spec/60_exceptions.md R500, R505, R506); `raise` is its one way to stop. -/

namespace Sys2Proof.Machine

/-- What a part of an instruction answers: a value to go on with, or the stop of the whole instruction. -/
abbrev Res (α : Type) := Host.Outcome α Fault Refusal

/-- Go on with the value, or stop as the first part stopped. -/
def andThen {α β : Type} (r : Res α) (k : α → Res β) : Res β :=
  match r with
  | .next x => k x
  | .fault f => .fault f
  | .refused q => .refused q

/-- `raise <Name>(info)` (R5, R500): the model stops, the instruction writes nothing, no handler is entered. -/
def raise {α : Type} (f : Fault) : Res α := .fault f

/-! ### Registers (R10, R11, R12) -/

/-- `x[r]` (R5). -/
def State.reg (s : State) : Reg → Byte
  | .A => s.a
  | .B => s.b
  | .C => s.c
  | .D => s.d

/-- `x[r] <- v` (R5). -/
def State.setReg (s : State) (r : Reg) (v : Byte) : State :=
  match r with
  | .A => { s with a := v }
  | .B => { s with b := v }
  | .C => { s with c := v }
  | .D => { s with d := v }

/-- The more significant register of a pair (R11). -/
def pairHi : Pair → Reg
  | .AB => .A
  | .CD => .C

/-- The less significant register of a pair (R11). -/
def pairLo : Pair → Reg
  | .AB => .B
  | .CD => .D

/-- `x[p]` (R5, R11): the register named first is the more significant half. -/
def State.pair (s : State) (p : Pair) : Word := s.reg (pairHi p) ++ s.reg (pairLo p)

/-- `x[p] <- v` (R5, R11). -/
def State.setPair (s : State) (p : Pair) (v : Word) : State :=
  (s.setReg (pairHi p) (hiByte v)).setReg (pairLo p) (loByte v)

/-- `sp <- v` (R12). -/
def State.setSp (s : State) (v : Word) : State := { s with sp := v }

/-- `pc <- v` (R13). -/
def State.setIp (s : State) (v : Word) : State := { s with ip := v }

/-- The flags written (R16). -/
def State.setFlags (s : State) (f : Flags) : State := { s with flags := f }

/-- Memory written (R31). -/
def State.setMem (s : State) (m : Memory) : State := { s with mem := m }

/-- `pc <- npc`, `npc = (pc + len) mod 2^16` (R14, R15). -/
def advance (len : Word) (s : State) : State := s.setIp (s.ip + len)

/-! ### Memory (R31, R40, R43 to R47) -/

/-- The value a position holds, if it holds one (R35). -/
def Memory.get? : Memory → Nat → Option Byte
  | [], _ => Memory.unlisted
  | (k, v) :: rest, a => if a = k then some v else Memory.get? rest a

/-- The memory in which one position holds a new value; the list stays in its canonical form. -/
def Memory.put : Memory → Nat → Byte → Memory
  | [], a, v => [(a, v)]
  | (k, x) :: rest, a, v =>
    if a < k then (a, v) :: (k, x) :: rest
    else if a = k then (a, v) :: rest
    else (k, x) :: Memory.put rest a v

/-- The byte at an address, if the position holds one: the model's read of one byte, without the access. -/
def State.peek (s : State) (a : Word) : Option Byte := Memory.get? s.mem a.toNat

/-- `MemRead(a, 1)` (R5): outside `MEM_MAP` it refuses (R45), a position that holds no value faults (R502). -/
def readByte (cfg : Config) (a : Word) (s : State) : Res Byte :=
  if cfg.memMap a then
    match s.peek a with
    | some v => .next v
    | none => raise (.unspecifiedRead a)
  else .refused (.outsideMemMap a)

/-- `MemWrite(a, 1, v)` (R5): outside `MEM_MAP` it refuses (R45). -/
def writeByte (cfg : Config) (a : Word) (v : Byte) (s : State) : Res State :=
  if cfg.memMap a then .next (s.setMem (Memory.put s.mem a.toNat v)) else .refused (.outsideMemMap a)

/-- `MemRead(a, 2)` (R5, R40, R44): two byte accesses, the lower address first (D17). -/
def readWord (cfg : Config) (a : Word) (s : State) : Res Word :=
  andThen (readByte cfg a s) fun x =>
  andThen (readByte cfg (a + 1) s) fun y =>
  .next (joinBytes cfg x y)

/-- `MemWrite(a, 2, v)` (R5, R40, R44). -/
def writeWord (cfg : Config) (a : Word) (v : Word) (s : State) : Res State :=
  andThen (writeByte cfg a (firstByte cfg v) s) fun t =>
  writeByte cfg (a + 1) (secondByte cfg v) t

/-! ### The stack (R51 to R55) -/

/-- Where a push of `n` bytes stores (the lower address) and what `SP` becomes (R51, R53, `STACK_DISCIPLINE`). -/
def pushSlot (cfg : Config) (n sp : Word) : Word × Word :=
  match cfg.stackDiscipline.direction, cfg.stackDiscipline.holds with
  | .towardLower, .lastPushed => (sp - n, sp - n)
  | .towardLower, .nextFree => (sp - n + 1, sp - n)
  | .towardHigher, .lastPushed => (sp + 1, sp + n)
  | .towardHigher, .nextFree => (sp, sp + n)

/-- Where a pop of `n` bytes loads from (the lower address) and what `SP` becomes (R52, R54, `STACK_DISCIPLINE`). -/
def popSlot (cfg : Config) (n sp : Word) : Word × Word :=
  match cfg.stackDiscipline.direction, cfg.stackDiscipline.holds with
  | .towardLower, .lastPushed => (sp, sp + n)
  | .towardLower, .nextFree => (sp + 1, sp + n)
  | .towardHigher, .lastPushed => (sp - n + 1, sp - n)
  | .towardHigher, .nextFree => (sp - n, sp - n)

/-- `Push8(v)` (R51). -/
def pushByte (cfg : Config) (v : Byte) (s : State) : Res State :=
  writeByte cfg (pushSlot cfg 1 s.sp).1 v (s.setSp (pushSlot cfg 1 s.sp).2)

/-- `Pop8()` (R52): the value, and the state in which `SP` has moved. -/
def popByte (cfg : Config) (s : State) : Res (Byte × State) :=
  andThen (readByte cfg (popSlot cfg 1 s.sp).1 s) fun v =>
  .next (v, s.setSp (popSlot cfg 1 s.sp).2)

/-- `Push16(v)` (R53). -/
def pushWord (cfg : Config) (v : Word) (s : State) : Res State :=
  writeWord cfg (pushSlot cfg 2 s.sp).1 v (s.setSp (pushSlot cfg 2 s.sp).2)

/-- `Pop16()` (R54). -/
def popWord (cfg : Config) (s : State) : Res (Word × State) :=
  andThen (readWord cfg (popSlot cfg 2 s.sp).1 s) fun v =>
  .next (v, s.setSp (popSlot cfg 2 s.sp).2)

/-! ### The peripheral (R32, `IO_MODEL`) -/

/-- `IoIn()` (R32): the next byte the environment has supplied; where it has supplied none, a free byte, or no byte if `IN` waits. -/
def ioIn (cfg : Config) (s : State) : Option (Byte × State) :=
  match s.input, cfg.ioModel.emptyInput with
  | v :: rest, _ => some (v, { s with input := rest })
  | [], .freeByte draw => some (draw s.inputDraws, { s with inputDraws := s.inputDraws + 1 })
  | [], .waits => none

/-- `IoOut(v)` (R32): the byte goes to the end of the output trace; it never waits. -/
def ioOut (cfg : Config) (v : Byte) (s : State) : State :=
  match cfg.ioModel.outputUse with
  | .traced => { s with output := s.output ++ [v] }
  | .dropped => s

/-! ### Branch targets (R371) -/

/-- `(npc + sext_16(offset)) mod 2^16` (R371, `REL_BASE`), `len` being the branch's length. -/
def relTarget (cfg : Config) (len : Word) (offset : Byte) (s : State) : Word :=
  match cfg.relBase with
  | .nextInstruction => s.ip + len + sext16 offset
  | .branchOpcode => s.ip + sext16 offset

/-- `pc <- target` if the branch is taken, else `pc <- npc` (R370). -/
def branchRel (cfg : Config) (taken : Bool) (len : Word) (offset : Byte) (s : State) : Res State :=
  .next (if taken then s.setIp (relTarget cfg len offset s) else advance len s)

end Sys2Proof.Machine
end

