-- ==== Sys2Proof/Machine/Operands.lean ====
section
/-! DEFINITION. The operand forms: the five addressing forms (spec/30_encoding.md R66 to R69), and reading and writing a byte
or a 16-bit operand of each kind the operand lists of R70 name. -/

namespace Sys2Proof.Machine

/-- The effective address of an addressing form, from the register values of `s` (R66 to R69, `ADDR_FORMS`). -/
def effectiveAddress (cfg : Config) (m : AddrForm) (s : State) : Word := cfg.addrForms m s.reg

/-- The value of an 8-bit location. -/
def readLoc8 (cfg : Config) (l : Loc8) (s : State) : Res Byte :=
  match l with
  | .reg r => .next (s.reg r)
  | .flags => .next (packFlags cfg s.flags)
  | .mem m => readByte cfg (effectiveAddress cfg m s) s

/-- An 8-bit location written. -/
def writeLoc8 (cfg : Config) (l : Loc8) (v : Byte) (s : State) : Res State :=
  match l with
  | .reg r => .next (s.setReg r v)
  | .flags => .next (s.setFlags (unpackFlags cfg v))
  | .mem m => writeByte cfg (effectiveAddress cfg m s) v s

/-- The value of a 16-bit location. -/
def readLoc16 (cfg : Config) (l : Loc16) (s : State) : Res Word :=
  match l with
  | .pair p => .next (s.pair p)
  | .sp => .next s.sp
  | .mem m => readWord cfg (effectiveAddress cfg m s) s

/-- A 16-bit location written. -/
def writeLoc16 (cfg : Config) (l : Loc16) (v : Word) (s : State) : Res State :=
  match l with
  | .pair p => .next (s.setPair p v)
  | .sp => .next (s.setSp v)
  | .mem m => writeWord cfg (effectiveAddress cfg m s) v s

/-- The value of an 8-bit source operand (R63: an immediate is used as it is). -/
def readSrc8 (cfg : Config) (o : Src8) (s : State) : Res Byte :=
  match o with
  | .imm v => .next v
  | .loc l => readLoc8 cfg l s

/-- The value of a 16-bit source operand (R64). -/
def readSrc16 (cfg : Config) (o : Src16) (s : State) : Res Word :=
  match o with
  | .imm v => .next v
  | .loc l => readLoc16 cfg l s

end Sys2Proof.Machine
end

