-- ==== Sys2Proof/Machine/Binary.lean ====
section
/-! DEFINITION. What the two-operand mnemonics compute (spec/44_alu_binary8.md R271, spec/45_alu16_muldiv.md R340). -/

namespace Sys2Proof.Machine

/-- An operation on two values: its row of the flag policy, and the result and the flags it computes from the first operand, the
second operand and the old `C`. -/
structure BinaryOp (w : Nat) where
  row : FlagRow
  compute : Config → BitVec w → BitVec w → Bool → BitVec w × Flags

/-- `ADD`: a + b (R271, R340). -/
def aluAdd {w : Nat} : BinaryOp w := { row := .addition, compute := fun cfg a b _ => flagsAdd cfg a b false }

/-- `ADC`: a + b + C (R271). -/
def aluAdc {w : Nat} : BinaryOp w := { row := .addition, compute := fun cfg a b carry => flagsAdd cfg a b carry }

/-- `SUB`: a - b (R271, R340). -/
def aluSub {w : Nat} : BinaryOp w := { row := .subtraction, compute := fun cfg a b _ => flagsSub cfg a b false }

/-- `SBB`: a - b - C (R271). -/
def aluSbb {w : Nat} : BinaryOp w := { row := .subtraction, compute := fun cfg a b carry => flagsSub cfg a b carry }

/-- `AND` (R271). -/
def aluAnd {w : Nat} : BinaryOp w := { row := .logic, compute := fun cfg a b _ => flagsLogic cfg (a &&& b) }

/-- `XOR` (R271). -/
def aluXor {w : Nat} : BinaryOp w := { row := .logic, compute := fun cfg a b _ => flagsLogic cfg (a ^^^ b) }

/-- `OR` (R271). -/
def aluOr {w : Nat} : BinaryOp w := { row := .logic, compute := fun cfg a b _ => flagsLogic cfg (a ||| b) }

end Sys2Proof.Machine
end

