-- ==== Sys2Proof/Machine/Alu16.lean ====
section
/-! DEFINITION. The 14 two-operand 16-bit operations (spec/45_alu16_muldiv.md R340, R345 to R358). -/

namespace Sys2Proof.Machine

/-- A binary operation on 16 bits (R340): the first operand is a pair or `SP` and receives the result. -/
def binary16 (cfg : Config) (op : BinaryOp 16) (dst : Loc16) (src : Src16) (len : Word) (s : State) : Res State :=
  andThen (readLoc16 cfg dst s) fun a =>
  andThen (readSrc16 cfg src s) fun b =>
  let r := op.compute cfg a b s.flags.carry
  andThen (writeLoc16 cfg dst r.1 (s.writeFlags cfg op.row r.2)) fun t =>
  .next (advance len t)

/-! ### §2.2 item 6: 16-bit ADD, SUB -/

/-- `ADD AB, imm16` (R345). -/
def execAddAB_imm16 (imm16 : Word) (s : State) (cfg : Config := Config.spec) : Res State :=
  binary16 cfg aluAdd (.pair .AB) (.imm imm16) 3 s

/-- `ADD AB, CD` (R346). -/
def execAddAB_CD (s : State) (cfg : Config := Config.spec) : Res State :=
  binary16 cfg aluAdd (.pair .AB) (.loc (.pair .CD)) 1 s

/-- `ADD CD, imm16` (R347). -/
def execAddCD_imm16 (imm16 : Word) (s : State) (cfg : Config := Config.spec) : Res State :=
  binary16 cfg aluAdd (.pair .CD) (.imm imm16) 3 s

/-- `ADD CD, AB` (R348). -/
def execAddCD_AB (s : State) (cfg : Config := Config.spec) : Res State :=
  binary16 cfg aluAdd (.pair .CD) (.loc (.pair .AB)) 1 s

/-- `ADD SP, imm16` (R349). -/
def execAddSP_imm16 (imm16 : Word) (s : State) (cfg : Config := Config.spec) : Res State :=
  binary16 cfg aluAdd (.sp) (.imm imm16) 3 s

/-- `ADD SP, AB` (R350). -/
def execAddSP_AB (s : State) (cfg : Config := Config.spec) : Res State :=
  binary16 cfg aluAdd (.sp) (.loc (.pair .AB)) 1 s

/-- `ADD SP, CD` (R351). -/
def execAddSP_CD (s : State) (cfg : Config := Config.spec) : Res State :=
  binary16 cfg aluAdd (.sp) (.loc (.pair .CD)) 1 s

/-- `SUB AB, imm16` (R352). -/
def execSubAB_imm16 (imm16 : Word) (s : State) (cfg : Config := Config.spec) : Res State :=
  binary16 cfg aluSub (.pair .AB) (.imm imm16) 3 s

/-- `SUB AB, CD` (R353). -/
def execSubAB_CD (s : State) (cfg : Config := Config.spec) : Res State :=
  binary16 cfg aluSub (.pair .AB) (.loc (.pair .CD)) 1 s

/-- `SUB CD, imm16` (R354). -/
def execSubCD_imm16 (imm16 : Word) (s : State) (cfg : Config := Config.spec) : Res State :=
  binary16 cfg aluSub (.pair .CD) (.imm imm16) 3 s

/-- `SUB CD, AB` (R355). -/
def execSubCD_AB (s : State) (cfg : Config := Config.spec) : Res State :=
  binary16 cfg aluSub (.pair .CD) (.loc (.pair .AB)) 1 s

/-- `SUB SP, imm16` (R356). -/
def execSubSP_imm16 (imm16 : Word) (s : State) (cfg : Config := Config.spec) : Res State :=
  binary16 cfg aluSub (.sp) (.imm imm16) 3 s

/-- `SUB SP, AB` (R357). -/
def execSubSP_AB (s : State) (cfg : Config := Config.spec) : Res State :=
  binary16 cfg aluSub (.sp) (.loc (.pair .AB)) 1 s

/-- `SUB SP, CD` (R358). -/
def execSubSP_CD (s : State) (cfg : Config := Config.spec) : Res State :=
  binary16 cfg aluSub (.sp) (.loc (.pair .CD)) 1 s

end Sys2Proof.Machine
end

