-- ==== Sys2Proof/Machine/Binary8.lean ====
section
/-! DEFINITION. The 64 two-operand 8-bit operations (spec/44_alu_binary8.md). -/

namespace Sys2Proof.Machine

/-- A binary operation on 8 bits (R270): the first operand is a register and receives the result. -/
def binary8 (cfg : Config) (op : BinaryOp 8) (dst : Reg) (src : Src8) (len : Word) (s : State) : Res State :=
  andThen (readSrc8 cfg src s) fun b =>
  let r := op.compute cfg (s.reg dst) b s.flags.carry
  .next (advance len ((s.writeFlags cfg op.row r.2).setReg dst r.1))

/-- `CMP` (R270, R271): the flags of the subtraction, no result. -/
def compare8 (cfg : Config) (first : Reg) (src : Src8) (len : Word) (s : State) : Res State :=
  andThen (readSrc8 cfg src s) fun b =>
  .next (advance len (s.writeFlags cfg .subtraction (flagsSub cfg (s.reg first) b false).2))

/-! ### §2.2 item 5: 8-bit binary operations -/

/-- `SUB A, imm8` (R275). -/
def execSubA_imm8 (imm8 : Byte) (s : State) (cfg : Config := Config.spec) : Res State :=
  binary8 cfg aluSub .A (.imm imm8) 2 s

/-- `SUB A, B` (R276). -/
def execSubA_B (s : State) (cfg : Config := Config.spec) : Res State :=
  binary8 cfg aluSub .A (.loc (.reg .B)) 1 s

/-- `SUB A, C` (R277). -/
def execSubA_C (s : State) (cfg : Config := Config.spec) : Res State :=
  binary8 cfg aluSub .A (.loc (.reg .C)) 1 s

/-- `SUB A, D` (R278). -/
def execSubA_D (s : State) (cfg : Config := Config.spec) : Res State :=
  binary8 cfg aluSub .A (.loc (.reg .D)) 1 s

/-- `SUB B, imm8` (R279). -/
def execSubB_imm8 (imm8 : Byte) (s : State) (cfg : Config := Config.spec) : Res State :=
  binary8 cfg aluSub .B (.imm imm8) 2 s

/-- `SUB B, A` (R280). -/
def execSubB_A (s : State) (cfg : Config := Config.spec) : Res State :=
  binary8 cfg aluSub .B (.loc (.reg .A)) 1 s

/-- `SUB B, C` (R281). -/
def execSubB_C (s : State) (cfg : Config := Config.spec) : Res State :=
  binary8 cfg aluSub .B (.loc (.reg .C)) 1 s

/-- `SUB B, D` (R282). -/
def execSubB_D (s : State) (cfg : Config := Config.spec) : Res State :=
  binary8 cfg aluSub .B (.loc (.reg .D)) 1 s

/-- `ADD A, imm8` (R283). -/
def execAddA_imm8 (imm8 : Byte) (s : State) (cfg : Config := Config.spec) : Res State :=
  binary8 cfg aluAdd .A (.imm imm8) 2 s

/-- `ADD A, B` (R284). -/
def execAddA_B (s : State) (cfg : Config := Config.spec) : Res State :=
  binary8 cfg aluAdd .A (.loc (.reg .B)) 1 s

/-- `ADD A, C` (R285). -/
def execAddA_C (s : State) (cfg : Config := Config.spec) : Res State :=
  binary8 cfg aluAdd .A (.loc (.reg .C)) 1 s

/-- `ADD A, D` (R286). -/
def execAddA_D (s : State) (cfg : Config := Config.spec) : Res State :=
  binary8 cfg aluAdd .A (.loc (.reg .D)) 1 s

/-- `ADD B, imm8` (R287). -/
def execAddB_imm8 (imm8 : Byte) (s : State) (cfg : Config := Config.spec) : Res State :=
  binary8 cfg aluAdd .B (.imm imm8) 2 s

/-- `ADD B, A` (R288). -/
def execAddB_A (s : State) (cfg : Config := Config.spec) : Res State :=
  binary8 cfg aluAdd .B (.loc (.reg .A)) 1 s

/-- `ADD B, C` (R289). -/
def execAddB_C (s : State) (cfg : Config := Config.spec) : Res State :=
  binary8 cfg aluAdd .B (.loc (.reg .C)) 1 s

/-- `ADD B, D` (R290). -/
def execAddB_D (s : State) (cfg : Config := Config.spec) : Res State :=
  binary8 cfg aluAdd .B (.loc (.reg .D)) 1 s

/-- `SBB A, imm8` (R291). -/
def execSbbA_imm8 (imm8 : Byte) (s : State) (cfg : Config := Config.spec) : Res State :=
  binary8 cfg aluSbb .A (.imm imm8) 2 s

/-- `SBB A, B` (R292). -/
def execSbbA_B (s : State) (cfg : Config := Config.spec) : Res State :=
  binary8 cfg aluSbb .A (.loc (.reg .B)) 1 s

/-- `SBB A, C` (R293). -/
def execSbbA_C (s : State) (cfg : Config := Config.spec) : Res State :=
  binary8 cfg aluSbb .A (.loc (.reg .C)) 1 s

/-- `SBB A, D` (R294). -/
def execSbbA_D (s : State) (cfg : Config := Config.spec) : Res State :=
  binary8 cfg aluSbb .A (.loc (.reg .D)) 1 s

/-- `SBB B, imm8` (R295). -/
def execSbbB_imm8 (imm8 : Byte) (s : State) (cfg : Config := Config.spec) : Res State :=
  binary8 cfg aluSbb .B (.imm imm8) 2 s

/-- `SBB B, A` (R296). -/
def execSbbB_A (s : State) (cfg : Config := Config.spec) : Res State :=
  binary8 cfg aluSbb .B (.loc (.reg .A)) 1 s

/-- `SBB B, C` (R297). -/
def execSbbB_C (s : State) (cfg : Config := Config.spec) : Res State :=
  binary8 cfg aluSbb .B (.loc (.reg .C)) 1 s

/-- `SBB B, D` (R298). -/
def execSbbB_D (s : State) (cfg : Config := Config.spec) : Res State :=
  binary8 cfg aluSbb .B (.loc (.reg .D)) 1 s

/-- `ADC A, imm8` (R299). -/
def execAdcA_imm8 (imm8 : Byte) (s : State) (cfg : Config := Config.spec) : Res State :=
  binary8 cfg aluAdc .A (.imm imm8) 2 s

/-- `ADC A, B` (R300). -/
def execAdcA_B (s : State) (cfg : Config := Config.spec) : Res State :=
  binary8 cfg aluAdc .A (.loc (.reg .B)) 1 s

/-- `ADC A, C` (R301). -/
def execAdcA_C (s : State) (cfg : Config := Config.spec) : Res State :=
  binary8 cfg aluAdc .A (.loc (.reg .C)) 1 s

/-- `ADC A, D` (R302). -/
def execAdcA_D (s : State) (cfg : Config := Config.spec) : Res State :=
  binary8 cfg aluAdc .A (.loc (.reg .D)) 1 s

/-- `ADC B, imm8` (R303). -/
def execAdcB_imm8 (imm8 : Byte) (s : State) (cfg : Config := Config.spec) : Res State :=
  binary8 cfg aluAdc .B (.imm imm8) 2 s

/-- `ADC B, A` (R304). -/
def execAdcB_A (s : State) (cfg : Config := Config.spec) : Res State :=
  binary8 cfg aluAdc .B (.loc (.reg .A)) 1 s

/-- `ADC B, C` (R305). -/
def execAdcB_C (s : State) (cfg : Config := Config.spec) : Res State :=
  binary8 cfg aluAdc .B (.loc (.reg .C)) 1 s

/-- `ADC B, D` (R306). -/
def execAdcB_D (s : State) (cfg : Config := Config.spec) : Res State :=
  binary8 cfg aluAdc .B (.loc (.reg .D)) 1 s

/-- `CMP A, imm8` (R307). -/
def execCmpA_imm8 (imm8 : Byte) (s : State) (cfg : Config := Config.spec) : Res State :=
  compare8 cfg .A (.imm imm8) 2 s

/-- `CMP A, B` (R308). -/
def execCmpA_B (s : State) (cfg : Config := Config.spec) : Res State :=
  compare8 cfg .A (.loc (.reg .B)) 1 s

/-- `CMP A, C` (R309). -/
def execCmpA_C (s : State) (cfg : Config := Config.spec) : Res State :=
  compare8 cfg .A (.loc (.reg .C)) 1 s

/-- `CMP A, D` (R310). -/
def execCmpA_D (s : State) (cfg : Config := Config.spec) : Res State :=
  compare8 cfg .A (.loc (.reg .D)) 1 s

/-- `CMP B, imm8` (R311). -/
def execCmpB_imm8 (imm8 : Byte) (s : State) (cfg : Config := Config.spec) : Res State :=
  compare8 cfg .B (.imm imm8) 2 s

/-- `CMP B, A` (R312). -/
def execCmpB_A (s : State) (cfg : Config := Config.spec) : Res State :=
  compare8 cfg .B (.loc (.reg .A)) 1 s

/-- `CMP B, C` (R313). -/
def execCmpB_C (s : State) (cfg : Config := Config.spec) : Res State :=
  compare8 cfg .B (.loc (.reg .C)) 1 s

/-- `CMP B, D` (R314). -/
def execCmpB_D (s : State) (cfg : Config := Config.spec) : Res State :=
  compare8 cfg .B (.loc (.reg .D)) 1 s

/-- `AND A, imm8` (R315). -/
def execAndA_imm8 (imm8 : Byte) (s : State) (cfg : Config := Config.spec) : Res State :=
  binary8 cfg aluAnd .A (.imm imm8) 2 s

/-- `AND A, B` (R316). -/
def execAndA_B (s : State) (cfg : Config := Config.spec) : Res State :=
  binary8 cfg aluAnd .A (.loc (.reg .B)) 1 s

/-- `AND A, C` (R317). -/
def execAndA_C (s : State) (cfg : Config := Config.spec) : Res State :=
  binary8 cfg aluAnd .A (.loc (.reg .C)) 1 s

/-- `AND A, D` (R318). -/
def execAndA_D (s : State) (cfg : Config := Config.spec) : Res State :=
  binary8 cfg aluAnd .A (.loc (.reg .D)) 1 s

/-- `AND B, imm8` (R319). -/
def execAndB_imm8 (imm8 : Byte) (s : State) (cfg : Config := Config.spec) : Res State :=
  binary8 cfg aluAnd .B (.imm imm8) 2 s

/-- `AND B, A` (R320). -/
def execAndB_A (s : State) (cfg : Config := Config.spec) : Res State :=
  binary8 cfg aluAnd .B (.loc (.reg .A)) 1 s

/-- `AND B, C` (R321). -/
def execAndB_C (s : State) (cfg : Config := Config.spec) : Res State :=
  binary8 cfg aluAnd .B (.loc (.reg .C)) 1 s

/-- `AND B, D` (R322). -/
def execAndB_D (s : State) (cfg : Config := Config.spec) : Res State :=
  binary8 cfg aluAnd .B (.loc (.reg .D)) 1 s

/-- `XOR A, imm8` (R323). -/
def execXorA_imm8 (imm8 : Byte) (s : State) (cfg : Config := Config.spec) : Res State :=
  binary8 cfg aluXor .A (.imm imm8) 2 s

/-- `XOR A, B` (R324). -/
def execXorA_B (s : State) (cfg : Config := Config.spec) : Res State :=
  binary8 cfg aluXor .A (.loc (.reg .B)) 1 s

/-- `XOR A, C` (R325). -/
def execXorA_C (s : State) (cfg : Config := Config.spec) : Res State :=
  binary8 cfg aluXor .A (.loc (.reg .C)) 1 s

/-- `XOR A, D` (R326). -/
def execXorA_D (s : State) (cfg : Config := Config.spec) : Res State :=
  binary8 cfg aluXor .A (.loc (.reg .D)) 1 s

/-- `XOR B, imm8` (R327). -/
def execXorB_imm8 (imm8 : Byte) (s : State) (cfg : Config := Config.spec) : Res State :=
  binary8 cfg aluXor .B (.imm imm8) 2 s

/-- `XOR B, A` (R328). -/
def execXorB_A (s : State) (cfg : Config := Config.spec) : Res State :=
  binary8 cfg aluXor .B (.loc (.reg .A)) 1 s

/-- `XOR B, C` (R329). -/
def execXorB_C (s : State) (cfg : Config := Config.spec) : Res State :=
  binary8 cfg aluXor .B (.loc (.reg .C)) 1 s

/-- `XOR B, D` (R330). -/
def execXorB_D (s : State) (cfg : Config := Config.spec) : Res State :=
  binary8 cfg aluXor .B (.loc (.reg .D)) 1 s

/-- `OR A, imm8` (R331). -/
def execOrA_imm8 (imm8 : Byte) (s : State) (cfg : Config := Config.spec) : Res State :=
  binary8 cfg aluOr .A (.imm imm8) 2 s

/-- `OR A, B` (R332). -/
def execOrA_B (s : State) (cfg : Config := Config.spec) : Res State :=
  binary8 cfg aluOr .A (.loc (.reg .B)) 1 s

/-- `OR A, C` (R333). -/
def execOrA_C (s : State) (cfg : Config := Config.spec) : Res State :=
  binary8 cfg aluOr .A (.loc (.reg .C)) 1 s

/-- `OR A, D` (R334). -/
def execOrA_D (s : State) (cfg : Config := Config.spec) : Res State :=
  binary8 cfg aluOr .A (.loc (.reg .D)) 1 s

/-- `OR B, imm8` (R335). -/
def execOrB_imm8 (imm8 : Byte) (s : State) (cfg : Config := Config.spec) : Res State :=
  binary8 cfg aluOr .B (.imm imm8) 2 s

/-- `OR B, A` (R336). -/
def execOrB_A (s : State) (cfg : Config := Config.spec) : Res State :=
  binary8 cfg aluOr .B (.loc (.reg .A)) 1 s

/-- `OR B, C` (R337). -/
def execOrB_C (s : State) (cfg : Config := Config.spec) : Res State :=
  binary8 cfg aluOr .B (.loc (.reg .C)) 1 s

/-- `OR B, D` (R338). -/
def execOrB_D (s : State) (cfg : Config := Config.spec) : Res State :=
  binary8 cfg aluOr .B (.loc (.reg .D)) 1 s

end Sys2Proof.Machine
end

