-- ==== Sys2Proof/Machine/Branches.lean ====
section
/-! DEFINITION. The 38 branch instructions (spec/46_branches.md). -/

namespace Sys2Proof.Machine

/-- `LOOP` (R401 to R404): the register is decremented, then compared with zero; no flag. -/
def loopRel (cfg : Config) (r : Reg) (len : Word) (offset : Byte) (s : State) : Res State :=
  branchRel cfg (s.reg r - 1 != 0) len offset (s.setReg r (s.reg r - 1))

/-- `JMP` (R372, R405): the target is copied to `IP`. -/
def jumpTo (target : Word) (s : State) : Res State := .next (s.setIp target)

/-- `CALL` (R408): `npc` is pushed, then the target, read before the push, is copied to `IP`. -/
def callTo (cfg : Config) (target : Word) (len : Word) (s : State) : Res State :=
  andThen (pushWord cfg (s.ip + len) s) fun t =>
  .next (t.setIp target)

/-- `RET` (R411). -/
def returnToTop (cfg : Config) (s : State) : Res State :=
  andThen (popWord cfg s) fun p =>
  .next (p.2.setIp p.1)

/-! ### §2.3 item 1: JR -/

/-- `JR rel8` (R374). -/
def execJr_rel8 (rel8 : Byte) (s : State) (cfg : Config := Config.spec) : Res State :=
  branchRel cfg true 2 rel8 s

/-- `JR A` (R375). -/
def execJrA (s : State) (cfg : Config := Config.spec) : Res State :=
  branchRel cfg true 1 (s.reg .A) s

/-- `JR B` (R376). -/
def execJrB (s : State) (cfg : Config := Config.spec) : Res State :=
  branchRel cfg true 1 (s.reg .B) s

/-! ### §2.3 item 2: branches on one flag -/

/-- `JS rel8` (R377). -/
def execJs_rel8 (rel8 : Byte) (s : State) (cfg : Config := Config.spec) : Res State :=
  branchRel cfg s.flags.sign 2 rel8 s

/-- `JP rel8` (R378). -/
def execJp_rel8 (rel8 : Byte) (s : State) (cfg : Config := Config.spec) : Res State :=
  branchRel cfg s.flags.parity 2 rel8 s

/-- `JO rel8` (R379). -/
def execJo_rel8 (rel8 : Byte) (s : State) (cfg : Config := Config.spec) : Res State :=
  branchRel cfg s.flags.overflow 2 rel8 s

/-- `JC rel8` (R380). -/
def execJc_rel8 (rel8 : Byte) (s : State) (cfg : Config := Config.spec) : Res State :=
  branchRel cfg s.flags.carry 2 rel8 s

/-- `JZ rel8` (R381). -/
def execJz_rel8 (rel8 : Byte) (s : State) (cfg : Config := Config.spec) : Res State :=
  branchRel cfg s.flags.zero 2 rel8 s

/-- `JNS rel8` (R382). -/
def execJns_rel8 (rel8 : Byte) (s : State) (cfg : Config := Config.spec) : Res State :=
  branchRel cfg (!s.flags.sign) 2 rel8 s

/-- `JNP rel8` (R383). -/
def execJnp_rel8 (rel8 : Byte) (s : State) (cfg : Config := Config.spec) : Res State :=
  branchRel cfg (!s.flags.parity) 2 rel8 s

/-- `JNO rel8` (R384). -/
def execJno_rel8 (rel8 : Byte) (s : State) (cfg : Config := Config.spec) : Res State :=
  branchRel cfg (!s.flags.overflow) 2 rel8 s

/-- `JNC rel8` (R385). -/
def execJnc_rel8 (rel8 : Byte) (s : State) (cfg : Config := Config.spec) : Res State :=
  branchRel cfg (!s.flags.carry) 2 rel8 s

/-- `JNZ rel8` (R386). -/
def execJnz_rel8 (rel8 : Byte) (s : State) (cfg : Config := Config.spec) : Res State :=
  branchRel cfg (!s.flags.zero) 2 rel8 s

/-! ### §2.3 item 3: branches on several flags -/

/-- `JZC rel8` (R387). -/
def execJzc_rel8 (rel8 : Byte) (s : State) (cfg : Config := Config.spec) : Res State :=
  branchRel cfg (s.flags.carry || s.flags.zero) 2 rel8 s

/-- `JSO rel8` (R388). -/
def execJso_rel8 (rel8 : Byte) (s : State) (cfg : Config := Config.spec) : Res State :=
  branchRel cfg (s.flags.sign == s.flags.overflow) 2 rel8 s

/-- `JSONZ rel8` (R389). -/
def execJsonz_rel8 (rel8 : Byte) (s : State) (cfg : Config := Config.spec) : Res State :=
  branchRel cfg (!s.flags.zero && s.flags.sign == s.flags.overflow) 2 rel8 s

/-- `JNZC rel8` (R390). -/
def execJnzc_rel8 (rel8 : Byte) (s : State) (cfg : Config := Config.spec) : Res State :=
  branchRel cfg (!s.flags.carry && !s.flags.zero) 2 rel8 s

/-- `JNSO rel8` (R391). -/
def execJnso_rel8 (rel8 : Byte) (s : State) (cfg : Config := Config.spec) : Res State :=
  branchRel cfg (s.flags.sign != s.flags.overflow) 2 rel8 s

/-- `JZNSO rel8` (R392). -/
def execJznso_rel8 (rel8 : Byte) (s : State) (cfg : Config := Config.spec) : Res State :=
  branchRel cfg (s.flags.zero || s.flags.sign != s.flags.overflow) 2 rel8 s

/-! ### §2.3 item 4: JEQZ, JNEQZ, LOOP -/

/-- `JEQZ A, rel8` (R393). -/
def execJeqzA_rel8 (rel8 : Byte) (s : State) (cfg : Config := Config.spec) : Res State :=
  branchRel cfg (s.reg .A == 0) 2 rel8 s

/-- `JEQZ B, rel8` (R394). -/
def execJeqzB_rel8 (rel8 : Byte) (s : State) (cfg : Config := Config.spec) : Res State :=
  branchRel cfg (s.reg .B == 0) 2 rel8 s

/-- `JEQZ C, rel8` (R395). -/
def execJeqzC_rel8 (rel8 : Byte) (s : State) (cfg : Config := Config.spec) : Res State :=
  branchRel cfg (s.reg .C == 0) 2 rel8 s

/-- `JEQZ D, rel8` (R396). -/
def execJeqzD_rel8 (rel8 : Byte) (s : State) (cfg : Config := Config.spec) : Res State :=
  branchRel cfg (s.reg .D == 0) 2 rel8 s

/-- `JNEQZ A, rel8` (R397). -/
def execJneqzA_rel8 (rel8 : Byte) (s : State) (cfg : Config := Config.spec) : Res State :=
  branchRel cfg (s.reg .A != 0) 2 rel8 s

/-- `JNEQZ B, rel8` (R398). -/
def execJneqzB_rel8 (rel8 : Byte) (s : State) (cfg : Config := Config.spec) : Res State :=
  branchRel cfg (s.reg .B != 0) 2 rel8 s

/-- `JNEQZ C, rel8` (R399). -/
def execJneqzC_rel8 (rel8 : Byte) (s : State) (cfg : Config := Config.spec) : Res State :=
  branchRel cfg (s.reg .C != 0) 2 rel8 s

/-- `JNEQZ D, rel8` (R400). -/
def execJneqzD_rel8 (rel8 : Byte) (s : State) (cfg : Config := Config.spec) : Res State :=
  branchRel cfg (s.reg .D != 0) 2 rel8 s

/-- `LOOP A, rel8` (R401). -/
def execLoopA_rel8 (rel8 : Byte) (s : State) (cfg : Config := Config.spec) : Res State :=
  loopRel cfg .A 2 rel8 s

/-- `LOOP B, rel8` (R402). -/
def execLoopB_rel8 (rel8 : Byte) (s : State) (cfg : Config := Config.spec) : Res State :=
  loopRel cfg .B 2 rel8 s

/-- `LOOP C, rel8` (R403). -/
def execLoopC_rel8 (rel8 : Byte) (s : State) (cfg : Config := Config.spec) : Res State :=
  loopRel cfg .C 2 rel8 s

/-- `LOOP D, rel8` (R404). -/
def execLoopD_rel8 (rel8 : Byte) (s : State) (cfg : Config := Config.spec) : Res State :=
  loopRel cfg .D 2 rel8 s

/-! ### §2.3 item 5: JMP -/

/-- `JMP imm16` (R405). -/
def execJmp_imm16 (imm16 : Word) (s : State) (_cfg : Config := Config.spec) : Res State :=
  jumpTo imm16 s

/-- `JMP AB` (R406). -/
def execJmpAB (s : State) (_cfg : Config := Config.spec) : Res State :=
  jumpTo (s.pair .AB) s

/-- `JMP CD` (R407). -/
def execJmpCD (s : State) (_cfg : Config := Config.spec) : Res State :=
  jumpTo (s.pair .CD) s

/-! ### §2.3 item 6: CALL -/

/-- `CALL imm16` (R408). -/
def execCall_imm16 (imm16 : Word) (s : State) (cfg : Config := Config.spec) : Res State :=
  callTo cfg imm16 3 s

/-- `CALL AB` (R409). -/
def execCallAB (s : State) (cfg : Config := Config.spec) : Res State :=
  callTo cfg (s.pair .AB) 1 s

/-- `CALL CD` (R410). -/
def execCallCD (s : State) (cfg : Config := Config.spec) : Res State :=
  callTo cfg (s.pair .CD) 1 s

/-! ### §2.3 item 7: RET -/

/-- `RET` (R411). -/
def execRet (s : State) (cfg : Config := Config.spec) : Res State :=
  returnToTop cfg s

end Sys2Proof.Machine
end

