-- ==== Sys2Proof/Machine/Control.lean ====
section
/-! DEFINITION. The 5 control instructions (spec/47_control.md). -/

namespace Sys2Proof.Machine

/-- `CLC`, `CMC`, `STC` (R420): `C` and nothing else. -/
def setCarry (v : Bool) (len : Word) (s : State) : Res State :=
  .next (advance len { s with flags := { s.flags with carry := v } })

/-- `HALT` (R424, `HALT_PC`). -/
def haltMachine (cfg : Config) (len : Word) (s : State) : Res State :=
  let t := { s with halted := true }
  .next (match cfg.haltPc with
    | .afterOpcode => advance len t
    | .atOpcode => t)

/-! ### §2.4 item 1: CLC, CMC, STC -/

/-- `CLC` (R421). -/
def execClc (s : State) (_cfg : Config := Config.spec) : Res State :=
  setCarry false 1 s

/-- `CMC` (R422). -/
def execCmc (s : State) (_cfg : Config := Config.spec) : Res State :=
  setCarry (!s.flags.carry) 1 s

/-- `STC` (R423). -/
def execStc (s : State) (_cfg : Config := Config.spec) : Res State :=
  setCarry true 1 s

/-! ### §2.4 item 2: HALT, NOP -/

/-- `HALT` (R424). -/
def execHalt (s : State) (cfg : Config := Config.spec) : Res State :=
  haltMachine cfg 1 s

/-- `NOP` (R425). -/
def execNop (s : State) (_cfg : Config := Config.spec) : Res State :=
  .next (advance 1 s)

end Sys2Proof.Machine
end

