-- ==== Sys2Proof/Machine/IoStack.lean ====
section
/-! DEFINITION. `IN`, `OUT`, `PUSH`, `POP` (spec/42_io_stack.md). -/

namespace Sys2Proof.Machine

/-- `IN` (R190, R195); where it waits (`IO_MODEL`), the machine keeps its state and the next step is the same `IN`. -/
def input (cfg : Config) (r : Reg) (len : Word) (s : State) : Res State :=
  match ioIn cfg s with
  | some (v, t) => .next (advance len (t.setReg r v))
  | none => .next s

/-- `OUT` (R190, R197). -/
def output (cfg : Config) (r : Reg) (len : Word) (s : State) : Res State :=
  .next (advance len (ioOut cfg (s.reg r) s))

/-- 8-bit `PUSH` (R191): the operand is read before `SP` moves. -/
def push8 (cfg : Config) (l : Loc8) (len : Word) (s : State) : Res State :=
  andThen (readLoc8 cfg l s) fun v =>
  andThen (pushByte cfg v s) fun t =>
  .next (advance len t)

/-- 8-bit `POP` (R191): `SP` has moved when the operand is written. -/
def pop8 (cfg : Config) (l : Loc8) (len : Word) (s : State) : Res State :=
  andThen (popByte cfg s) fun p =>
  andThen (writeLoc8 cfg l p.1 p.2) fun t =>
  .next (advance len t)

/-- 16-bit `PUSH` (R192, R211). -/
def push16 (cfg : Config) (p : Pair) (len : Word) (s : State) : Res State :=
  andThen (pushWord cfg (s.pair p) s) fun t =>
  .next (advance len t)

/-- 16-bit `POP` (R192, R213). -/
def pop16 (cfg : Config) (p : Pair) (len : Word) (s : State) : Res State :=
  andThen (popWord cfg s) fun q =>
  .next (advance len (q.2.setPair p q.1))

/-! ### §2.1 item 6: IN, OUT -/

/-- `IN A` (R195). -/
def execInA (s : State) (cfg : Config := Config.spec) : Res State :=
  input cfg .A 1 s

/-- `IN B` (R196). -/
def execInB (s : State) (cfg : Config := Config.spec) : Res State :=
  input cfg .B 1 s

/-- `OUT A` (R197). -/
def execOutA (s : State) (cfg : Config := Config.spec) : Res State :=
  output cfg .A 1 s

/-- `OUT B` (R198). -/
def execOutB (s : State) (cfg : Config := Config.spec) : Res State :=
  output cfg .B 1 s

/-! ### §2.1 item 7: 8-bit PUSH, POP -/

/-- `PUSH A` (R199). -/
def execPushA (s : State) (cfg : Config := Config.spec) : Res State :=
  push8 cfg (.reg .A) 1 s

/-- `PUSH B` (R200). -/
def execPushB (s : State) (cfg : Config := Config.spec) : Res State :=
  push8 cfg (.reg .B) 1 s

/-- `PUSH C` (R201). -/
def execPushC (s : State) (cfg : Config := Config.spec) : Res State :=
  push8 cfg (.reg .C) 1 s

/-- `PUSH D` (R202). -/
def execPushD (s : State) (cfg : Config := Config.spec) : Res State :=
  push8 cfg (.reg .D) 1 s

/-- `PUSH F` (R203). -/
def execPushF (s : State) (cfg : Config := Config.spec) : Res State :=
  push8 cfg (.flags) 1 s

/-- `PUSH [addr16]` (R204). -/
def execPushAtAddr (addr16 : Word) (s : State) (cfg : Config := Config.spec) : Res State :=
  push8 cfg (.mem (.direct addr16)) 3 s

/-- `POP A` (R205). -/
def execPopA (s : State) (cfg : Config := Config.spec) : Res State :=
  pop8 cfg (.reg .A) 1 s

/-- `POP B` (R206). -/
def execPopB (s : State) (cfg : Config := Config.spec) : Res State :=
  pop8 cfg (.reg .B) 1 s

/-- `POP C` (R207). -/
def execPopC (s : State) (cfg : Config := Config.spec) : Res State :=
  pop8 cfg (.reg .C) 1 s

/-- `POP D` (R208). -/
def execPopD (s : State) (cfg : Config := Config.spec) : Res State :=
  pop8 cfg (.reg .D) 1 s

/-- `POP F` (R209). -/
def execPopF (s : State) (cfg : Config := Config.spec) : Res State :=
  pop8 cfg (.flags) 1 s

/-- `POP [addr16]` (R210). -/
def execPopAtAddr (addr16 : Word) (s : State) (cfg : Config := Config.spec) : Res State :=
  pop8 cfg (.mem (.direct addr16)) 3 s

/-! ### §2.1 item 8: 16-bit PUSH, POP -/

/-- `PUSH AB` (R211). -/
def execPushAB (s : State) (cfg : Config := Config.spec) : Res State :=
  push16 cfg .AB 1 s

/-- `PUSH CD` (R212). -/
def execPushCD (s : State) (cfg : Config := Config.spec) : Res State :=
  push16 cfg .CD 1 s

/-- `POP AB` (R213). -/
def execPopAB (s : State) (cfg : Config := Config.spec) : Res State :=
  pop16 cfg .AB 1 s

/-- `POP CD` (R214). -/
def execPopCD (s : State) (cfg : Config := Config.spec) : Res State :=
  pop16 cfg .CD 1 s

end Sys2Proof.Machine
end

