-- ==== Sys2Proof/Machine/Mov16.lean ====
section
/-! DEFINITION. The 27 16-bit `MOV` (spec/41_mov16.md). -/

namespace Sys2Proof.Machine

/-- 16-bit `MOV` (R160): both source bytes are read before anything is written. -/
def mov16 (cfg : Config) (dst : Loc16) (src : Src16) (len : Word) (s : State) : Res State :=
  andThen (readSrc16 cfg src s) fun v =>
  andThen (writeLoc16 cfg dst v s) fun t =>
  .next (advance len t)

/-! ### §2.1 item 3: 16-bit MOV to a pair -/

/-- `MOV AB, imm16` (R163). -/
def execMovAB_imm16 (imm16 : Word) (s : State) (cfg : Config := Config.spec) : Res State :=
  mov16 cfg (.pair .AB) (.imm imm16) 3 s

/-- `MOV AB, [addr16]` (R164). -/
def execMovAB_atAddr (addr16 : Word) (s : State) (cfg : Config := Config.spec) : Res State :=
  mov16 cfg (.pair .AB) (.loc (.mem (.direct addr16))) 3 s

/-- `MOV AB, [AB]` (R165). -/
def execMovAB_atAB (s : State) (cfg : Config := Config.spec) : Res State :=
  mov16 cfg (.pair .AB) (.loc (.mem (.implicit .AB))) 1 s

/-- `MOV AB, [CD]` (R166). -/
def execMovAB_atCD (s : State) (cfg : Config := Config.spec) : Res State :=
  mov16 cfg (.pair .AB) (.loc (.mem (.implicit .CD))) 1 s

/-- `MOV AB, [AB+disp16]` (R167). -/
def execMovAB_atABdisp (disp16 : Word) (s : State) (cfg : Config := Config.spec) : Res State :=
  mov16 cfg (.pair .AB) (.loc (.mem (.indexed .AB disp16))) (indexedLength cfg) s

/-- `MOV AB, [CD+disp16]` (R168). -/
def execMovAB_atCDdisp (disp16 : Word) (s : State) (cfg : Config := Config.spec) : Res State :=
  mov16 cfg (.pair .AB) (.loc (.mem (.indexed .CD disp16))) (indexedLength cfg) s

/-- `MOV AB, CD` (R169). -/
def execMovAB_CD (s : State) (cfg : Config := Config.spec) : Res State :=
  mov16 cfg (.pair .AB) (.loc (.pair .CD)) 1 s

/-- `MOV AB, SP` (R170). -/
def execMovAB_SP (s : State) (cfg : Config := Config.spec) : Res State :=
  mov16 cfg (.pair .AB) (.loc (.sp)) 1 s

/-- `MOV CD, imm16` (R171). -/
def execMovCD_imm16 (imm16 : Word) (s : State) (cfg : Config := Config.spec) : Res State :=
  mov16 cfg (.pair .CD) (.imm imm16) 3 s

/-- `MOV CD, [addr16]` (R172). -/
def execMovCD_atAddr (addr16 : Word) (s : State) (cfg : Config := Config.spec) : Res State :=
  mov16 cfg (.pair .CD) (.loc (.mem (.direct addr16))) 3 s

/-- `MOV CD, [AB]` (R173). -/
def execMovCD_atAB (s : State) (cfg : Config := Config.spec) : Res State :=
  mov16 cfg (.pair .CD) (.loc (.mem (.implicit .AB))) 1 s

/-- `MOV CD, [CD]` (R174). -/
def execMovCD_atCD (s : State) (cfg : Config := Config.spec) : Res State :=
  mov16 cfg (.pair .CD) (.loc (.mem (.implicit .CD))) 1 s

/-- `MOV CD, [AB+disp16]` (R175). -/
def execMovCD_atABdisp (disp16 : Word) (s : State) (cfg : Config := Config.spec) : Res State :=
  mov16 cfg (.pair .CD) (.loc (.mem (.indexed .AB disp16))) (indexedLength cfg) s

/-- `MOV CD, [CD+disp16]` (R176). -/
def execMovCD_atCDdisp (disp16 : Word) (s : State) (cfg : Config := Config.spec) : Res State :=
  mov16 cfg (.pair .CD) (.loc (.mem (.indexed .CD disp16))) (indexedLength cfg) s

/-- `MOV CD, AB` (R177). -/
def execMovCD_AB (s : State) (cfg : Config := Config.spec) : Res State :=
  mov16 cfg (.pair .CD) (.loc (.pair .AB)) 1 s

/-- `MOV CD, SP` (R178). -/
def execMovCD_SP (s : State) (cfg : Config := Config.spec) : Res State :=
  mov16 cfg (.pair .CD) (.loc (.sp)) 1 s

/-! ### §2.1 item 4: 16-bit MOV to SP -/

/-- `MOV SP, imm16` (R179). -/
def execMovSP_imm16 (imm16 : Word) (s : State) (cfg : Config := Config.spec) : Res State :=
  mov16 cfg (.sp) (.imm imm16) 3 s

/-- `MOV SP, [addr16]` (R180). -/
def execMovSP_atAddr (addr16 : Word) (s : State) (cfg : Config := Config.spec) : Res State :=
  mov16 cfg (.sp) (.loc (.mem (.direct addr16))) 3 s

/-- `MOV SP, AB` (R181). -/
def execMovSP_AB (s : State) (cfg : Config := Config.spec) : Res State :=
  mov16 cfg (.sp) (.loc (.pair .AB)) 1 s

/-- `MOV SP, CD` (R182). -/
def execMovSP_CD (s : State) (cfg : Config := Config.spec) : Res State :=
  mov16 cfg (.sp) (.loc (.pair .CD)) 1 s

/-! ### §2.1 item 5: 16-bit MOV to memory -/

/-- `MOV [addr16], AB` (R183). -/
def execMovAtAddr_AB (addr16 : Word) (s : State) (cfg : Config := Config.spec) : Res State :=
  mov16 cfg (.mem (.direct addr16)) (.loc (.pair .AB)) 3 s

/-- `MOV [addr16], CD` (R184). -/
def execMovAtAddr_CD (addr16 : Word) (s : State) (cfg : Config := Config.spec) : Res State :=
  mov16 cfg (.mem (.direct addr16)) (.loc (.pair .CD)) 3 s

/-- `MOV [addr16], SP` (R185). -/
def execMovAtAddr_SP (addr16 : Word) (s : State) (cfg : Config := Config.spec) : Res State :=
  mov16 cfg (.mem (.direct addr16)) (.loc (.sp)) 3 s

/-- `MOV [AB], CD` (R186). -/
def execMovAtAB_CD (s : State) (cfg : Config := Config.spec) : Res State :=
  mov16 cfg (.mem (.implicit .AB)) (.loc (.pair .CD)) 1 s

/-- `MOV [CD], AB` (R187). -/
def execMovAtCD_AB (s : State) (cfg : Config := Config.spec) : Res State :=
  mov16 cfg (.mem (.implicit .CD)) (.loc (.pair .AB)) 1 s

/-- `MOV [AB+disp16], CD` (R188). -/
def execMovAtABdisp_CD (disp16 : Word) (s : State) (cfg : Config := Config.spec) : Res State :=
  mov16 cfg (.mem (.indexed .AB disp16)) (.loc (.pair .CD)) (indexedLength cfg) s

/-- `MOV [CD+disp16], AB` (R189). -/
def execMovAtCDdisp_AB (disp16 : Word) (s : State) (cfg : Config := Config.spec) : Res State :=
  mov16 cfg (.mem (.indexed .CD disp16)) (.loc (.pair .AB)) (indexedLength cfg) s

end Sys2Proof.Machine
end

