-- ==== Sys2Proof/Machine/Mov8.lean ====
section
/-! DEFINITION. The 49 8-bit `MOV` (spec/40_mov8.md). -/

namespace Sys2Proof.Machine

/-- 8-bit `MOV` (R100, R103): the source is read, the destination written, its address taken from the register values the
instruction started with. -/
def mov8 (cfg : Config) (dst : Loc8) (src : Src8) (len : Word) (s : State) : Res State :=
  andThen (readSrc8 cfg src s) fun v =>
  andThen (writeLoc8 cfg dst v s) fun t =>
  .next (advance len t)

/-! ### §2.1 item 1: 8-bit MOV to a register -/

/-- `MOV A, imm8` (R105). -/
def execMovA_imm8 (imm8 : Byte) (s : State) (cfg : Config := Config.spec) : Res State :=
  mov8 cfg (.reg .A) (.imm imm8) 2 s

/-- `MOV A, B` (R106). -/
def execMovA_B (s : State) (cfg : Config := Config.spec) : Res State :=
  mov8 cfg (.reg .A) (.loc (.reg .B)) 1 s

/-- `MOV A, C` (R107). -/
def execMovA_C (s : State) (cfg : Config := Config.spec) : Res State :=
  mov8 cfg (.reg .A) (.loc (.reg .C)) 1 s

/-- `MOV A, D` (R108). -/
def execMovA_D (s : State) (cfg : Config := Config.spec) : Res State :=
  mov8 cfg (.reg .A) (.loc (.reg .D)) 1 s

/-- `MOV A, [addr16]` (R109). -/
def execMovA_atAddr (addr16 : Word) (s : State) (cfg : Config := Config.spec) : Res State :=
  mov8 cfg (.reg .A) (.loc (.mem (.direct addr16))) 3 s

/-- `MOV A, [AB]` (R110). -/
def execMovA_atAB (s : State) (cfg : Config := Config.spec) : Res State :=
  mov8 cfg (.reg .A) (.loc (.mem (.implicit .AB))) 1 s

/-- `MOV A, [CD]` (R111). -/
def execMovA_atCD (s : State) (cfg : Config := Config.spec) : Res State :=
  mov8 cfg (.reg .A) (.loc (.mem (.implicit .CD))) 1 s

/-- `MOV A, [AB+disp16]` (R112). -/
def execMovA_atABdisp (disp16 : Word) (s : State) (cfg : Config := Config.spec) : Res State :=
  mov8 cfg (.reg .A) (.loc (.mem (.indexed .AB disp16))) (indexedLength cfg) s

/-- `MOV A, [CD+disp16]` (R113). -/
def execMovA_atCDdisp (disp16 : Word) (s : State) (cfg : Config := Config.spec) : Res State :=
  mov8 cfg (.reg .A) (.loc (.mem (.indexed .CD disp16))) (indexedLength cfg) s

/-- `MOV B, imm8` (R114). -/
def execMovB_imm8 (imm8 : Byte) (s : State) (cfg : Config := Config.spec) : Res State :=
  mov8 cfg (.reg .B) (.imm imm8) 2 s

/-- `MOV B, A` (R115). -/
def execMovB_A (s : State) (cfg : Config := Config.spec) : Res State :=
  mov8 cfg (.reg .B) (.loc (.reg .A)) 1 s

/-- `MOV B, C` (R116). -/
def execMovB_C (s : State) (cfg : Config := Config.spec) : Res State :=
  mov8 cfg (.reg .B) (.loc (.reg .C)) 1 s

/-- `MOV B, D` (R117). -/
def execMovB_D (s : State) (cfg : Config := Config.spec) : Res State :=
  mov8 cfg (.reg .B) (.loc (.reg .D)) 1 s

/-- `MOV B, [addr16]` (R118). -/
def execMovB_atAddr (addr16 : Word) (s : State) (cfg : Config := Config.spec) : Res State :=
  mov8 cfg (.reg .B) (.loc (.mem (.direct addr16))) 3 s

/-- `MOV B, [AB]` (R119). -/
def execMovB_atAB (s : State) (cfg : Config := Config.spec) : Res State :=
  mov8 cfg (.reg .B) (.loc (.mem (.implicit .AB))) 1 s

/-- `MOV B, [CD]` (R120). -/
def execMovB_atCD (s : State) (cfg : Config := Config.spec) : Res State :=
  mov8 cfg (.reg .B) (.loc (.mem (.implicit .CD))) 1 s

/-- `MOV B, [AB+disp16]` (R121). -/
def execMovB_atABdisp (disp16 : Word) (s : State) (cfg : Config := Config.spec) : Res State :=
  mov8 cfg (.reg .B) (.loc (.mem (.indexed .AB disp16))) (indexedLength cfg) s

/-- `MOV B, [CD+disp16]` (R122). -/
def execMovB_atCDdisp (disp16 : Word) (s : State) (cfg : Config := Config.spec) : Res State :=
  mov8 cfg (.reg .B) (.loc (.mem (.indexed .CD disp16))) (indexedLength cfg) s

/-- `MOV C, imm8` (R123). -/
def execMovC_imm8 (imm8 : Byte) (s : State) (cfg : Config := Config.spec) : Res State :=
  mov8 cfg (.reg .C) (.imm imm8) 2 s

/-- `MOV C, A` (R124). -/
def execMovC_A (s : State) (cfg : Config := Config.spec) : Res State :=
  mov8 cfg (.reg .C) (.loc (.reg .A)) 1 s

/-- `MOV C, B` (R125). -/
def execMovC_B (s : State) (cfg : Config := Config.spec) : Res State :=
  mov8 cfg (.reg .C) (.loc (.reg .B)) 1 s

/-- `MOV C, D` (R126). -/
def execMovC_D (s : State) (cfg : Config := Config.spec) : Res State :=
  mov8 cfg (.reg .C) (.loc (.reg .D)) 1 s

/-- `MOV C, [addr16]` (R127). -/
def execMovC_atAddr (addr16 : Word) (s : State) (cfg : Config := Config.spec) : Res State :=
  mov8 cfg (.reg .C) (.loc (.mem (.direct addr16))) 3 s

/-- `MOV C, [AB]` (R128). -/
def execMovC_atAB (s : State) (cfg : Config := Config.spec) : Res State :=
  mov8 cfg (.reg .C) (.loc (.mem (.implicit .AB))) 1 s

/-- `MOV C, [CD]` (R129). -/
def execMovC_atCD (s : State) (cfg : Config := Config.spec) : Res State :=
  mov8 cfg (.reg .C) (.loc (.mem (.implicit .CD))) 1 s

/-- `MOV C, [AB+disp16]` (R130). -/
def execMovC_atABdisp (disp16 : Word) (s : State) (cfg : Config := Config.spec) : Res State :=
  mov8 cfg (.reg .C) (.loc (.mem (.indexed .AB disp16))) (indexedLength cfg) s

/-- `MOV C, [CD+disp16]` (R131). -/
def execMovC_atCDdisp (disp16 : Word) (s : State) (cfg : Config := Config.spec) : Res State :=
  mov8 cfg (.reg .C) (.loc (.mem (.indexed .CD disp16))) (indexedLength cfg) s

/-- `MOV D, imm8` (R132). -/
def execMovD_imm8 (imm8 : Byte) (s : State) (cfg : Config := Config.spec) : Res State :=
  mov8 cfg (.reg .D) (.imm imm8) 2 s

/-- `MOV D, A` (R133). -/
def execMovD_A (s : State) (cfg : Config := Config.spec) : Res State :=
  mov8 cfg (.reg .D) (.loc (.reg .A)) 1 s

/-- `MOV D, B` (R134). -/
def execMovD_B (s : State) (cfg : Config := Config.spec) : Res State :=
  mov8 cfg (.reg .D) (.loc (.reg .B)) 1 s

/-- `MOV D, C` (R135). -/
def execMovD_C (s : State) (cfg : Config := Config.spec) : Res State :=
  mov8 cfg (.reg .D) (.loc (.reg .C)) 1 s

/-- `MOV D, [addr16]` (R136). -/
def execMovD_atAddr (addr16 : Word) (s : State) (cfg : Config := Config.spec) : Res State :=
  mov8 cfg (.reg .D) (.loc (.mem (.direct addr16))) 3 s

/-- `MOV D, [AB]` (R137). -/
def execMovD_atAB (s : State) (cfg : Config := Config.spec) : Res State :=
  mov8 cfg (.reg .D) (.loc (.mem (.implicit .AB))) 1 s

/-- `MOV D, [CD]` (R138). -/
def execMovD_atCD (s : State) (cfg : Config := Config.spec) : Res State :=
  mov8 cfg (.reg .D) (.loc (.mem (.implicit .CD))) 1 s

/-- `MOV D, [AB+disp16]` (R139). -/
def execMovD_atABdisp (disp16 : Word) (s : State) (cfg : Config := Config.spec) : Res State :=
  mov8 cfg (.reg .D) (.loc (.mem (.indexed .AB disp16))) (indexedLength cfg) s

/-- `MOV D, [CD+disp16]` (R140). -/
def execMovD_atCDdisp (disp16 : Word) (s : State) (cfg : Config := Config.spec) : Res State :=
  mov8 cfg (.reg .D) (.loc (.mem (.indexed .CD disp16))) (indexedLength cfg) s

/-! ### §2.1 item 2: 8-bit MOV to memory -/

/-- `MOV [addr16], A` (R141). -/
def execMovAtAddr_A (addr16 : Word) (s : State) (cfg : Config := Config.spec) : Res State :=
  mov8 cfg (.mem (.direct addr16)) (.loc (.reg .A)) 3 s

/-- `MOV [addr16], B` (R142). -/
def execMovAtAddr_B (addr16 : Word) (s : State) (cfg : Config := Config.spec) : Res State :=
  mov8 cfg (.mem (.direct addr16)) (.loc (.reg .B)) 3 s

/-- `MOV [addr16], C` (R143). -/
def execMovAtAddr_C (addr16 : Word) (s : State) (cfg : Config := Config.spec) : Res State :=
  mov8 cfg (.mem (.direct addr16)) (.loc (.reg .C)) 3 s

/-- `MOV [addr16], D` (R144). -/
def execMovAtAddr_D (addr16 : Word) (s : State) (cfg : Config := Config.spec) : Res State :=
  mov8 cfg (.mem (.direct addr16)) (.loc (.reg .D)) 3 s

/-- `MOV [AB], C` (R145). -/
def execMovAtAB_C (s : State) (cfg : Config := Config.spec) : Res State :=
  mov8 cfg (.mem (.implicit .AB)) (.loc (.reg .C)) 1 s

/-- `MOV [AB], D` (R146). -/
def execMovAtAB_D (s : State) (cfg : Config := Config.spec) : Res State :=
  mov8 cfg (.mem (.implicit .AB)) (.loc (.reg .D)) 1 s

/-- `MOV [CD], A` (R147). -/
def execMovAtCD_A (s : State) (cfg : Config := Config.spec) : Res State :=
  mov8 cfg (.mem (.implicit .CD)) (.loc (.reg .A)) 1 s

/-- `MOV [CD], B` (R148). -/
def execMovAtCD_B (s : State) (cfg : Config := Config.spec) : Res State :=
  mov8 cfg (.mem (.implicit .CD)) (.loc (.reg .B)) 1 s

/-- `MOV [AB+disp16], C` (R149). -/
def execMovAtABdisp_C (disp16 : Word) (s : State) (cfg : Config := Config.spec) : Res State :=
  mov8 cfg (.mem (.indexed .AB disp16)) (.loc (.reg .C)) (indexedLength cfg) s

/-- `MOV [AB+disp16], D` (R150). -/
def execMovAtABdisp_D (disp16 : Word) (s : State) (cfg : Config := Config.spec) : Res State :=
  mov8 cfg (.mem (.indexed .AB disp16)) (.loc (.reg .D)) (indexedLength cfg) s

/-- `MOV [CD+disp16], A` (R151). -/
def execMovAtCDdisp_A (disp16 : Word) (s : State) (cfg : Config := Config.spec) : Res State :=
  mov8 cfg (.mem (.indexed .CD disp16)) (.loc (.reg .A)) (indexedLength cfg) s

/-- `MOV [CD+disp16], B` (R152). -/
def execMovAtCDdisp_B (disp16 : Word) (s : State) (cfg : Config := Config.spec) : Res State :=
  mov8 cfg (.mem (.indexed .CD disp16)) (.loc (.reg .B)) (indexedLength cfg) s

/-- `MOV [addr16], imm8` (R153). -/
def execMovAtAddr_imm8 (addr16 : Word) (imm8 : Byte) (s : State) (cfg : Config := Config.spec) : Res State :=
  mov8 cfg (.mem (.direct addr16)) (.imm imm8) 4 s

end Sys2Proof.Machine
end

