-- ==== Sys2Proof/Machine/MulDiv.lean ====
section
/-! DEFINITION. Multiplication, division, sign expansion (spec/45_alu16_muldiv.md R341, R359 to R363). -/

namespace Sys2Proof.Machine

/-- The product of `MUL` (R359). -/
def unsignedProduct (a d : Byte) : Word := BitVec.ofNat 16 (a.toNat * d.toNat)

/-- Whether the high byte of the product of `MUL` is significant (R28). -/
def unsignedWide (prod : Word) : Bool := hiByte prod != 0

/-- The product of `IMUL` (R360). -/
def signedProduct (a d : Byte) : Word := BitVec.ofInt 16 (a.toInt * d.toInt)

/-- Whether the signed product of `IMUL` does not fit in 8 bits (R28). -/
def signedWide (prod : Word) : Bool := prod != sext16 (loByte prod)

/-- `MUL` and `IMUL` (R341, R28): the factors are `A` and `D`, the product goes to `AB`. -/
def multiply (cfg : Config) (row : FlagRow) (product : Byte → Byte → Word) (wide : Word → Bool) (len : Word) (s : State) :
    Res State :=
  let prod := product (s.reg .A) (s.reg .D)
  .next (advance len ((s.writeFlags cfg row (flagsMul cfg prod (wide prod))).setPair .AB prod))

/-- `DIV` (R361): the quotient and the remainder, or the cause of `DivideError` (R501, R504: `zero` before `overflow`). -/
def unsignedDivision (dividend : Word) (divisor : Byte) : Except DivideCause (Byte × Byte) :=
  let n := dividend.toNat
  let d := divisor.toNat
  if d = 0 then .error .zero
  else if n / d > 0xFF then .error .overflow
  else .ok (BitVec.ofNat 8 (n / d), BitVec.ofNat 8 (n % d))

/-- `IDIV` (R362): rounded toward zero, the remainder zero or of the dividend's sign. -/
def signedDivision (dividend : Word) (divisor : Byte) : Except DivideCause (Byte × Byte) :=
  let n := dividend.toInt
  let d := divisor.toInt
  let q := Int.tdiv n d
  if d = 0 then .error .zero
  else if q < -128 ∨ q > 127 then .error .overflow
  else .ok (BitVec.ofInt 8 q, BitVec.ofInt 8 (n - q * d))

/-- The quotient and the remainder the configuration gives `DIV` where it has none (`DIV_FAULT`); none if it raises `DivideError`. -/
def unsignedInstead (cfg : Config) (dividend : Word) (divisor : Byte) : Option (Byte × Byte) :=
  match cfg.divFault with
  | .divideError => none
  | .goesOn unsigned _ => some (unsigned dividend divisor)

/-- The same for `IDIV`. -/
def signedInstead (cfg : Config) (dividend : Word) (divisor : Byte) : Option (Byte × Byte) :=
  match cfg.divFault with
  | .divideError => none
  | .goesOn _ signed => some (signed dividend divisor)

/-- The end of a division (R341, R29): the remainder goes to `A`, the quotient to `B`; the flags of its row, those the rule computes
nothing for taken from the quotient. -/
def storeDivision (cfg : Config) (quotient remainder : Byte) (len : Word) (s : State) : State :=
  advance len (((s.writeFlags cfg .division (flagsOf cfg quotient false false)).setReg .A remainder).setReg .B quotient)

/-- `DIV` and `IDIV` (R341, R29): the dividend is `AB`, the divisor `D`. Where there is no result, `DivideError` and nothing written
(R501), or what the configuration gives `instead` (`DIV_FAULT`). -/
def divide (cfg : Config) (division : Word → Byte → Except DivideCause (Byte × Byte))
    (instead : Config → Word → Byte → Option (Byte × Byte)) (len : Word) (s : State) : Res State :=
  match division (s.pair .AB) (s.reg .D) with
  | .ok (quotient, remainder) => .next (storeDivision cfg quotient remainder len s)
  | .error cause =>
    match instead cfg (s.pair .AB) (s.reg .D) with
    | some (quotient, remainder) => .next (storeDivision cfg quotient remainder len s)
    | none => raise (.divideError cause)

/-- `EXP A, B` (R363): every bit of `A` is the sign of `B`; the flags of its row, from the 16-bit result. -/
def expandSign (cfg : Config) (len : Word) (s : State) : Res State :=
  let high : Byte := if (s.reg .B).getLsbD 7 then 0xFF else 0x00
  .next (advance len ((s.writeFlags cfg .signExpansion (flagsOf cfg (high ++ s.reg .B) false false)).setReg .A high))

/-! ### §2.2 item 7: multiplication and division -/

/-- `MUL A, D` (R359). -/
def execMulA_D (s : State) (cfg : Config := Config.spec) : Res State :=
  multiply cfg .unsignedProduct unsignedProduct unsignedWide 1 s

/-- `IMUL A, D` (R360). -/
def execImulA_D (s : State) (cfg : Config := Config.spec) : Res State :=
  multiply cfg .signedProduct signedProduct signedWide 1 s

/-- `DIV AB, D` (R361). -/
def execDivAB_D (s : State) (cfg : Config := Config.spec) : Res State :=
  divide cfg unsignedDivision unsignedInstead 1 s

/-- `IDIV AB, D` (R362). -/
def execIdivAB_D (s : State) (cfg : Config := Config.spec) : Res State :=
  divide cfg signedDivision signedInstead 1 s

/-! ### §2.2 item 8: EXP -/

/-- `EXP A, B` (R363). -/
def execExpA_B (s : State) (cfg : Config := Config.spec) : Res State :=
  expandSign cfg 1 s

end Sys2Proof.Machine
end

