-- ==== Sys2Proof/Machine/Unary.lean ====
section
/-! DEFINITION. One-operand arithmetic and logic (spec/43_alu_unary.md). -/

namespace Sys2Proof.Machine

/-- An operation on one value: its row of the flag policy, and the result and the flags it computes from the operand and the old
`C`. -/
structure UnaryOp (w : Nat) where
  row : FlagRow
  compute : Config → BitVec w → Bool → BitVec w × Flags

/-- `DEC` (R23). -/
def aluDec {w : Nat} : UnaryOp w := { row := .decrement, compute := fun cfg a _ => flagsDec cfg a }

/-- `INC` (R23). -/
def aluInc {w : Nat} : UnaryOp w := { row := .increment, compute := fun cfg a _ => flagsInc cfg a }

/-- `NOT` (R25). -/
def aluNot {w : Nat} : UnaryOp w := { row := .complement, compute := fun cfg a _ => flagsNot cfg a }

/-- `NEG` (R25). -/
def aluNeg {w : Nat} : UnaryOp w := { row := .negation, compute := fun cfg a _ => flagsNeg cfg a }

/-- `SHL` (R26). -/
def aluShl {w : Nat} : UnaryOp w := { row := .shiftLeft, compute := fun cfg a _ => flagsShl cfg a }

/-- `SHR` (R26). -/
def aluShr {w : Nat} : UnaryOp w := { row := .shiftRight, compute := fun cfg a _ => flagsShr cfg a }

/-- `RL` (R27). -/
def aluRl {w : Nat} : UnaryOp w := { row := .rotateLeft, compute := fun cfg a carry => flagsRl cfg a carry }

/-- `RR` (R27). -/
def aluRr {w : Nat} : UnaryOp w := { row := .rotateRight, compute := fun cfg a carry => flagsRr cfg a carry }

/-- A unary operation on 8 bits, in place (R220 to R222). -/
def unary8 (cfg : Config) (op : UnaryOp 8) (l : Loc8) (len : Word) (s : State) : Res State :=
  andThen (readLoc8 cfg l s) fun a =>
  let r := op.compute cfg a s.flags.carry
  andThen (writeLoc8 cfg l r.1 (s.writeFlags cfg op.row r.2)) fun t =>
  .next (advance len t)

/-- A unary operation on 16 bits, in place (R220 to R222). -/
def unary16 (cfg : Config) (op : UnaryOp 16) (l : Loc16) (len : Word) (s : State) : Res State :=
  andThen (readLoc16 cfg l s) fun a =>
  let r := op.compute cfg a s.flags.carry
  andThen (writeLoc16 cfg l r.1 (s.writeFlags cfg op.row r.2)) fun t =>
  .next (advance len t)

/-! ### §2.2 item 1: 8-bit DEC, INC -/

/-- `DEC A` (R225). -/
def execDecA (s : State) (cfg : Config := Config.spec) : Res State :=
  unary8 cfg aluDec (.reg .A) 1 s

/-- `DEC B` (R226). -/
def execDecB (s : State) (cfg : Config := Config.spec) : Res State :=
  unary8 cfg aluDec (.reg .B) 1 s

/-- `DEC C` (R227). -/
def execDecC (s : State) (cfg : Config := Config.spec) : Res State :=
  unary8 cfg aluDec (.reg .C) 1 s

/-- `DEC D` (R228). -/
def execDecD (s : State) (cfg : Config := Config.spec) : Res State :=
  unary8 cfg aluDec (.reg .D) 1 s

/-- `DEC [addr16]` (R229). -/
def execDecAtAddr (addr16 : Word) (s : State) (cfg : Config := Config.spec) : Res State :=
  unary8 cfg aluDec (.mem (.direct addr16)) 3 s

/-- `INC A` (R230). -/
def execIncA (s : State) (cfg : Config := Config.spec) : Res State :=
  unary8 cfg aluInc (.reg .A) 1 s

/-- `INC B` (R231). -/
def execIncB (s : State) (cfg : Config := Config.spec) : Res State :=
  unary8 cfg aluInc (.reg .B) 1 s

/-- `INC C` (R232). -/
def execIncC (s : State) (cfg : Config := Config.spec) : Res State :=
  unary8 cfg aluInc (.reg .C) 1 s

/-- `INC D` (R233). -/
def execIncD (s : State) (cfg : Config := Config.spec) : Res State :=
  unary8 cfg aluInc (.reg .D) 1 s

/-- `INC [addr16]` (R234). -/
def execIncAtAddr (addr16 : Word) (s : State) (cfg : Config := Config.spec) : Res State :=
  unary8 cfg aluInc (.mem (.direct addr16)) 3 s

/-! ### §2.2 item 2: 16-bit DEC, INC -/

/-- `DEC AB` (R235). -/
def execDecAB (s : State) (cfg : Config := Config.spec) : Res State :=
  unary16 cfg aluDec (.pair .AB) 1 s

/-- `DEC CD` (R236). -/
def execDecCD (s : State) (cfg : Config := Config.spec) : Res State :=
  unary16 cfg aluDec (.pair .CD) 1 s

/-- `DEC SP` (R237). -/
def execDecSP (s : State) (cfg : Config := Config.spec) : Res State :=
  unary16 cfg aluDec (.sp) 1 s

/-- `INC AB` (R238). -/
def execIncAB (s : State) (cfg : Config := Config.spec) : Res State :=
  unary16 cfg aluInc (.pair .AB) 1 s

/-- `INC CD` (R239). -/
def execIncCD (s : State) (cfg : Config := Config.spec) : Res State :=
  unary16 cfg aluInc (.pair .CD) 1 s

/-- `INC SP` (R240). -/
def execIncSP (s : State) (cfg : Config := Config.spec) : Res State :=
  unary16 cfg aluInc (.sp) 1 s

/-! ### §2.2 item 3: other 8-bit unary operations -/

/-- `NOT A` (R241). -/
def execNotA (s : State) (cfg : Config := Config.spec) : Res State :=
  unary8 cfg aluNot (.reg .A) 1 s

/-- `NOT B` (R242). -/
def execNotB (s : State) (cfg : Config := Config.spec) : Res State :=
  unary8 cfg aluNot (.reg .B) 1 s

/-- `NEG A` (R243). -/
def execNegA (s : State) (cfg : Config := Config.spec) : Res State :=
  unary8 cfg aluNeg (.reg .A) 1 s

/-- `NEG B` (R244). -/
def execNegB (s : State) (cfg : Config := Config.spec) : Res State :=
  unary8 cfg aluNeg (.reg .B) 1 s

/-- `SHL A` (R245). -/
def execShlA (s : State) (cfg : Config := Config.spec) : Res State :=
  unary8 cfg aluShl (.reg .A) 1 s

/-- `SHL B` (R246). -/
def execShlB (s : State) (cfg : Config := Config.spec) : Res State :=
  unary8 cfg aluShl (.reg .B) 1 s

/-- `SHR A` (R247). -/
def execShrA (s : State) (cfg : Config := Config.spec) : Res State :=
  unary8 cfg aluShr (.reg .A) 1 s

/-- `SHR B` (R248). -/
def execShrB (s : State) (cfg : Config := Config.spec) : Res State :=
  unary8 cfg aluShr (.reg .B) 1 s

/-- `RL A` (R249). -/
def execRlA (s : State) (cfg : Config := Config.spec) : Res State :=
  unary8 cfg aluRl (.reg .A) 1 s

/-- `RL B` (R250). -/
def execRlB (s : State) (cfg : Config := Config.spec) : Res State :=
  unary8 cfg aluRl (.reg .B) 1 s

/-- `RR A` (R251). -/
def execRrA (s : State) (cfg : Config := Config.spec) : Res State :=
  unary8 cfg aluRr (.reg .A) 1 s

/-- `RR B` (R252). -/
def execRrB (s : State) (cfg : Config := Config.spec) : Res State :=
  unary8 cfg aluRr (.reg .B) 1 s

/-! ### §2.2 item 4: other 16-bit unary operations -/

/-- `NOT AB` (R253). -/
def execNotAB (s : State) (cfg : Config := Config.spec) : Res State :=
  unary16 cfg aluNot (.pair .AB) 1 s

/-- `NEG AB` (R254). -/
def execNegAB (s : State) (cfg : Config := Config.spec) : Res State :=
  unary16 cfg aluNeg (.pair .AB) 1 s

/-- `SHL AB` (R255). -/
def execShlAB (s : State) (cfg : Config := Config.spec) : Res State :=
  unary16 cfg aluShl (.pair .AB) 1 s

/-- `SHR AB` (R256). -/
def execShrAB (s : State) (cfg : Config := Config.spec) : Res State :=
  unary16 cfg aluShr (.pair .AB) 1 s

/-- `RL AB` (R257). -/
def execRlAB (s : State) (cfg : Config := Config.spec) : Res State :=
  unary16 cfg aluRl (.pair .AB) 1 s

/-- `RR AB` (R258). -/
def execRrAB (s : State) (cfg : Config := Config.spec) : Res State :=
  unary16 cfg aluRr (.pair .AB) 1 s

end Sys2Proof.Machine
end

