-- ==== Sys2Proof/Machine/Dispatch.lean ====
section
/-! DEFINITION. The dispatch: one arm per instruction, in the order of spec/30_encoding.md R70. -/

namespace Sys2Proof.Machine

def exec (i : Instr) (s : State) : Host.Outcome State Fault Refusal :=
  match i with
  -- §2.1 item 1: 8-bit MOV to a register
  | .movA_imm8 imm8 => Sys2Proof.Machine.execMovA_imm8 imm8 s
  | .movA_B => Sys2Proof.Machine.execMovA_B s
  | .movA_C => Sys2Proof.Machine.execMovA_C s
  | .movA_D => Sys2Proof.Machine.execMovA_D s
  | .movA_atAddr addr16 => Sys2Proof.Machine.execMovA_atAddr addr16 s
  | .movA_atAB => Sys2Proof.Machine.execMovA_atAB s
  | .movA_atCD => Sys2Proof.Machine.execMovA_atCD s
  | .movA_atABdisp disp16 => Sys2Proof.Machine.execMovA_atABdisp disp16 s
  | .movA_atCDdisp disp16 => Sys2Proof.Machine.execMovA_atCDdisp disp16 s
  | .movB_imm8 imm8 => Sys2Proof.Machine.execMovB_imm8 imm8 s
  | .movB_A => Sys2Proof.Machine.execMovB_A s
  | .movB_C => Sys2Proof.Machine.execMovB_C s
  | .movB_D => Sys2Proof.Machine.execMovB_D s
  | .movB_atAddr addr16 => Sys2Proof.Machine.execMovB_atAddr addr16 s
  | .movB_atAB => Sys2Proof.Machine.execMovB_atAB s
  | .movB_atCD => Sys2Proof.Machine.execMovB_atCD s
  | .movB_atABdisp disp16 => Sys2Proof.Machine.execMovB_atABdisp disp16 s
  | .movB_atCDdisp disp16 => Sys2Proof.Machine.execMovB_atCDdisp disp16 s
  | .movC_imm8 imm8 => Sys2Proof.Machine.execMovC_imm8 imm8 s
  | .movC_A => Sys2Proof.Machine.execMovC_A s
  | .movC_B => Sys2Proof.Machine.execMovC_B s
  | .movC_D => Sys2Proof.Machine.execMovC_D s
  | .movC_atAddr addr16 => Sys2Proof.Machine.execMovC_atAddr addr16 s
  | .movC_atAB => Sys2Proof.Machine.execMovC_atAB s
  | .movC_atCD => Sys2Proof.Machine.execMovC_atCD s
  | .movC_atABdisp disp16 => Sys2Proof.Machine.execMovC_atABdisp disp16 s
  | .movC_atCDdisp disp16 => Sys2Proof.Machine.execMovC_atCDdisp disp16 s
  | .movD_imm8 imm8 => Sys2Proof.Machine.execMovD_imm8 imm8 s
  | .movD_A => Sys2Proof.Machine.execMovD_A s
  | .movD_B => Sys2Proof.Machine.execMovD_B s
  | .movD_C => Sys2Proof.Machine.execMovD_C s
  | .movD_atAddr addr16 => Sys2Proof.Machine.execMovD_atAddr addr16 s
  | .movD_atAB => Sys2Proof.Machine.execMovD_atAB s
  | .movD_atCD => Sys2Proof.Machine.execMovD_atCD s
  | .movD_atABdisp disp16 => Sys2Proof.Machine.execMovD_atABdisp disp16 s
  | .movD_atCDdisp disp16 => Sys2Proof.Machine.execMovD_atCDdisp disp16 s
  -- §2.1 item 2: 8-bit MOV to memory
  | .movAtAddr_A addr16 => Sys2Proof.Machine.execMovAtAddr_A addr16 s
  | .movAtAddr_B addr16 => Sys2Proof.Machine.execMovAtAddr_B addr16 s
  | .movAtAddr_C addr16 => Sys2Proof.Machine.execMovAtAddr_C addr16 s
  | .movAtAddr_D addr16 => Sys2Proof.Machine.execMovAtAddr_D addr16 s
  | .movAtAB_C => Sys2Proof.Machine.execMovAtAB_C s
  | .movAtAB_D => Sys2Proof.Machine.execMovAtAB_D s
  | .movAtCD_A => Sys2Proof.Machine.execMovAtCD_A s
  | .movAtCD_B => Sys2Proof.Machine.execMovAtCD_B s
  | .movAtABdisp_C disp16 => Sys2Proof.Machine.execMovAtABdisp_C disp16 s
  | .movAtABdisp_D disp16 => Sys2Proof.Machine.execMovAtABdisp_D disp16 s
  | .movAtCDdisp_A disp16 => Sys2Proof.Machine.execMovAtCDdisp_A disp16 s
  | .movAtCDdisp_B disp16 => Sys2Proof.Machine.execMovAtCDdisp_B disp16 s
  | .movAtAddr_imm8 addr16 imm8 => Sys2Proof.Machine.execMovAtAddr_imm8 addr16 imm8 s
  -- §2.1 item 3: 16-bit MOV to a pair
  | .movAB_imm16 imm16 => Sys2Proof.Machine.execMovAB_imm16 imm16 s
  | .movAB_atAddr addr16 => Sys2Proof.Machine.execMovAB_atAddr addr16 s
  | .movAB_atAB => Sys2Proof.Machine.execMovAB_atAB s
  | .movAB_atCD => Sys2Proof.Machine.execMovAB_atCD s
  | .movAB_atABdisp disp16 => Sys2Proof.Machine.execMovAB_atABdisp disp16 s
  | .movAB_atCDdisp disp16 => Sys2Proof.Machine.execMovAB_atCDdisp disp16 s
  | .movAB_CD => Sys2Proof.Machine.execMovAB_CD s
  | .movAB_SP => Sys2Proof.Machine.execMovAB_SP s
  | .movCD_imm16 imm16 => Sys2Proof.Machine.execMovCD_imm16 imm16 s
  | .movCD_atAddr addr16 => Sys2Proof.Machine.execMovCD_atAddr addr16 s
  | .movCD_atAB => Sys2Proof.Machine.execMovCD_atAB s
  | .movCD_atCD => Sys2Proof.Machine.execMovCD_atCD s
  | .movCD_atABdisp disp16 => Sys2Proof.Machine.execMovCD_atABdisp disp16 s
  | .movCD_atCDdisp disp16 => Sys2Proof.Machine.execMovCD_atCDdisp disp16 s
  | .movCD_AB => Sys2Proof.Machine.execMovCD_AB s
  | .movCD_SP => Sys2Proof.Machine.execMovCD_SP s
  -- §2.1 item 4: 16-bit MOV to SP
  | .movSP_imm16 imm16 => Sys2Proof.Machine.execMovSP_imm16 imm16 s
  | .movSP_atAddr addr16 => Sys2Proof.Machine.execMovSP_atAddr addr16 s
  | .movSP_AB => Sys2Proof.Machine.execMovSP_AB s
  | .movSP_CD => Sys2Proof.Machine.execMovSP_CD s
  -- §2.1 item 5: 16-bit MOV to memory
  | .movAtAddr_AB addr16 => Sys2Proof.Machine.execMovAtAddr_AB addr16 s
  | .movAtAddr_CD addr16 => Sys2Proof.Machine.execMovAtAddr_CD addr16 s
  | .movAtAddr_SP addr16 => Sys2Proof.Machine.execMovAtAddr_SP addr16 s
  | .movAtAB_CD => Sys2Proof.Machine.execMovAtAB_CD s
  | .movAtCD_AB => Sys2Proof.Machine.execMovAtCD_AB s
  | .movAtABdisp_CD disp16 => Sys2Proof.Machine.execMovAtABdisp_CD disp16 s
  | .movAtCDdisp_AB disp16 => Sys2Proof.Machine.execMovAtCDdisp_AB disp16 s
  -- §2.1 item 6: IN, OUT
  | .inA => Sys2Proof.Machine.execInA s
  | .inB => Sys2Proof.Machine.execInB s
  | .outA => Sys2Proof.Machine.execOutA s
  | .outB => Sys2Proof.Machine.execOutB s
  -- §2.1 item 7: 8-bit PUSH, POP
  | .pushA => Sys2Proof.Machine.execPushA s
  | .pushB => Sys2Proof.Machine.execPushB s
  | .pushC => Sys2Proof.Machine.execPushC s
  | .pushD => Sys2Proof.Machine.execPushD s
  | .pushF => Sys2Proof.Machine.execPushF s
  | .pushAtAddr addr16 => Sys2Proof.Machine.execPushAtAddr addr16 s
  | .popA => Sys2Proof.Machine.execPopA s
  | .popB => Sys2Proof.Machine.execPopB s
  | .popC => Sys2Proof.Machine.execPopC s
  | .popD => Sys2Proof.Machine.execPopD s
  | .popF => Sys2Proof.Machine.execPopF s
  | .popAtAddr addr16 => Sys2Proof.Machine.execPopAtAddr addr16 s
  -- §2.1 item 8: 16-bit PUSH, POP
  | .pushAB => Sys2Proof.Machine.execPushAB s
  | .pushCD => Sys2Proof.Machine.execPushCD s
  | .popAB => Sys2Proof.Machine.execPopAB s
  | .popCD => Sys2Proof.Machine.execPopCD s
  -- §2.2 item 1: 8-bit DEC, INC
  | .decA => Sys2Proof.Machine.execDecA s
  | .decB => Sys2Proof.Machine.execDecB s
  | .decC => Sys2Proof.Machine.execDecC s
  | .decD => Sys2Proof.Machine.execDecD s
  | .decAtAddr addr16 => Sys2Proof.Machine.execDecAtAddr addr16 s
  | .incA => Sys2Proof.Machine.execIncA s
  | .incB => Sys2Proof.Machine.execIncB s
  | .incC => Sys2Proof.Machine.execIncC s
  | .incD => Sys2Proof.Machine.execIncD s
  | .incAtAddr addr16 => Sys2Proof.Machine.execIncAtAddr addr16 s
  -- §2.2 item 2: 16-bit DEC, INC
  | .decAB => Sys2Proof.Machine.execDecAB s
  | .decCD => Sys2Proof.Machine.execDecCD s
  | .decSP => Sys2Proof.Machine.execDecSP s
  | .incAB => Sys2Proof.Machine.execIncAB s
  | .incCD => Sys2Proof.Machine.execIncCD s
  | .incSP => Sys2Proof.Machine.execIncSP s
  -- §2.2 item 3: other 8-bit unary operations
  | .notA => Sys2Proof.Machine.execNotA s
  | .notB => Sys2Proof.Machine.execNotB s
  | .negA => Sys2Proof.Machine.execNegA s
  | .negB => Sys2Proof.Machine.execNegB s
  | .shlA => Sys2Proof.Machine.execShlA s
  | .shlB => Sys2Proof.Machine.execShlB s
  | .shrA => Sys2Proof.Machine.execShrA s
  | .shrB => Sys2Proof.Machine.execShrB s
  | .rlA => Sys2Proof.Machine.execRlA s
  | .rlB => Sys2Proof.Machine.execRlB s
  | .rrA => Sys2Proof.Machine.execRrA s
  | .rrB => Sys2Proof.Machine.execRrB s
  -- §2.2 item 4: other 16-bit unary operations
  | .notAB => Sys2Proof.Machine.execNotAB s
  | .negAB => Sys2Proof.Machine.execNegAB s
  | .shlAB => Sys2Proof.Machine.execShlAB s
  | .shrAB => Sys2Proof.Machine.execShrAB s
  | .rlAB => Sys2Proof.Machine.execRlAB s
  | .rrAB => Sys2Proof.Machine.execRrAB s
  -- §2.2 item 5: 8-bit binary operations
  | .subA_imm8 imm8 => Sys2Proof.Machine.execSubA_imm8 imm8 s
  | .subA_B => Sys2Proof.Machine.execSubA_B s
  | .subA_C => Sys2Proof.Machine.execSubA_C s
  | .subA_D => Sys2Proof.Machine.execSubA_D s
  | .subB_imm8 imm8 => Sys2Proof.Machine.execSubB_imm8 imm8 s
  | .subB_A => Sys2Proof.Machine.execSubB_A s
  | .subB_C => Sys2Proof.Machine.execSubB_C s
  | .subB_D => Sys2Proof.Machine.execSubB_D s
  | .addA_imm8 imm8 => Sys2Proof.Machine.execAddA_imm8 imm8 s
  | .addA_B => Sys2Proof.Machine.execAddA_B s
  | .addA_C => Sys2Proof.Machine.execAddA_C s
  | .addA_D => Sys2Proof.Machine.execAddA_D s
  | .addB_imm8 imm8 => Sys2Proof.Machine.execAddB_imm8 imm8 s
  | .addB_A => Sys2Proof.Machine.execAddB_A s
  | .addB_C => Sys2Proof.Machine.execAddB_C s
  | .addB_D => Sys2Proof.Machine.execAddB_D s
  | .sbbA_imm8 imm8 => Sys2Proof.Machine.execSbbA_imm8 imm8 s
  | .sbbA_B => Sys2Proof.Machine.execSbbA_B s
  | .sbbA_C => Sys2Proof.Machine.execSbbA_C s
  | .sbbA_D => Sys2Proof.Machine.execSbbA_D s
  | .sbbB_imm8 imm8 => Sys2Proof.Machine.execSbbB_imm8 imm8 s
  | .sbbB_A => Sys2Proof.Machine.execSbbB_A s
  | .sbbB_C => Sys2Proof.Machine.execSbbB_C s
  | .sbbB_D => Sys2Proof.Machine.execSbbB_D s
  | .adcA_imm8 imm8 => Sys2Proof.Machine.execAdcA_imm8 imm8 s
  | .adcA_B => Sys2Proof.Machine.execAdcA_B s
  | .adcA_C => Sys2Proof.Machine.execAdcA_C s
  | .adcA_D => Sys2Proof.Machine.execAdcA_D s
  | .adcB_imm8 imm8 => Sys2Proof.Machine.execAdcB_imm8 imm8 s
  | .adcB_A => Sys2Proof.Machine.execAdcB_A s
  | .adcB_C => Sys2Proof.Machine.execAdcB_C s
  | .adcB_D => Sys2Proof.Machine.execAdcB_D s
  | .cmpA_imm8 imm8 => Sys2Proof.Machine.execCmpA_imm8 imm8 s
  | .cmpA_B => Sys2Proof.Machine.execCmpA_B s
  | .cmpA_C => Sys2Proof.Machine.execCmpA_C s
  | .cmpA_D => Sys2Proof.Machine.execCmpA_D s
  | .cmpB_imm8 imm8 => Sys2Proof.Machine.execCmpB_imm8 imm8 s
  | .cmpB_A => Sys2Proof.Machine.execCmpB_A s
  | .cmpB_C => Sys2Proof.Machine.execCmpB_C s
  | .cmpB_D => Sys2Proof.Machine.execCmpB_D s
  | .andA_imm8 imm8 => Sys2Proof.Machine.execAndA_imm8 imm8 s
  | .andA_B => Sys2Proof.Machine.execAndA_B s
  | .andA_C => Sys2Proof.Machine.execAndA_C s
  | .andA_D => Sys2Proof.Machine.execAndA_D s
  | .andB_imm8 imm8 => Sys2Proof.Machine.execAndB_imm8 imm8 s
  | .andB_A => Sys2Proof.Machine.execAndB_A s
  | .andB_C => Sys2Proof.Machine.execAndB_C s
  | .andB_D => Sys2Proof.Machine.execAndB_D s
  | .xorA_imm8 imm8 => Sys2Proof.Machine.execXorA_imm8 imm8 s
  | .xorA_B => Sys2Proof.Machine.execXorA_B s
  | .xorA_C => Sys2Proof.Machine.execXorA_C s
  | .xorA_D => Sys2Proof.Machine.execXorA_D s
  | .xorB_imm8 imm8 => Sys2Proof.Machine.execXorB_imm8 imm8 s
  | .xorB_A => Sys2Proof.Machine.execXorB_A s
  | .xorB_C => Sys2Proof.Machine.execXorB_C s
  | .xorB_D => Sys2Proof.Machine.execXorB_D s
  | .orA_imm8 imm8 => Sys2Proof.Machine.execOrA_imm8 imm8 s
  | .orA_B => Sys2Proof.Machine.execOrA_B s
  | .orA_C => Sys2Proof.Machine.execOrA_C s
  | .orA_D => Sys2Proof.Machine.execOrA_D s
  | .orB_imm8 imm8 => Sys2Proof.Machine.execOrB_imm8 imm8 s
  | .orB_A => Sys2Proof.Machine.execOrB_A s
  | .orB_C => Sys2Proof.Machine.execOrB_C s
  | .orB_D => Sys2Proof.Machine.execOrB_D s
  -- §2.2 item 6: 16-bit ADD, SUB
  | .addAB_imm16 imm16 => Sys2Proof.Machine.execAddAB_imm16 imm16 s
  | .addAB_CD => Sys2Proof.Machine.execAddAB_CD s
  | .addCD_imm16 imm16 => Sys2Proof.Machine.execAddCD_imm16 imm16 s
  | .addCD_AB => Sys2Proof.Machine.execAddCD_AB s
  | .addSP_imm16 imm16 => Sys2Proof.Machine.execAddSP_imm16 imm16 s
  | .addSP_AB => Sys2Proof.Machine.execAddSP_AB s
  | .addSP_CD => Sys2Proof.Machine.execAddSP_CD s
  | .subAB_imm16 imm16 => Sys2Proof.Machine.execSubAB_imm16 imm16 s
  | .subAB_CD => Sys2Proof.Machine.execSubAB_CD s
  | .subCD_imm16 imm16 => Sys2Proof.Machine.execSubCD_imm16 imm16 s
  | .subCD_AB => Sys2Proof.Machine.execSubCD_AB s
  | .subSP_imm16 imm16 => Sys2Proof.Machine.execSubSP_imm16 imm16 s
  | .subSP_AB => Sys2Proof.Machine.execSubSP_AB s
  | .subSP_CD => Sys2Proof.Machine.execSubSP_CD s
  -- §2.2 item 7: multiplication and division
  | .mulA_D => Sys2Proof.Machine.execMulA_D s
  | .imulA_D => Sys2Proof.Machine.execImulA_D s
  | .divAB_D => Sys2Proof.Machine.execDivAB_D s
  | .idivAB_D => Sys2Proof.Machine.execIdivAB_D s
  -- §2.2 item 8: EXP
  | .expA_B => Sys2Proof.Machine.execExpA_B s
  -- §2.3 item 1: JR
  | .jr_rel8 rel8 => Sys2Proof.Machine.execJr_rel8 rel8 s
  | .jrA => Sys2Proof.Machine.execJrA s
  | .jrB => Sys2Proof.Machine.execJrB s
  -- §2.3 item 2: branches on one flag
  | .js_rel8 rel8 => Sys2Proof.Machine.execJs_rel8 rel8 s
  | .jp_rel8 rel8 => Sys2Proof.Machine.execJp_rel8 rel8 s
  | .jo_rel8 rel8 => Sys2Proof.Machine.execJo_rel8 rel8 s
  | .jc_rel8 rel8 => Sys2Proof.Machine.execJc_rel8 rel8 s
  | .jz_rel8 rel8 => Sys2Proof.Machine.execJz_rel8 rel8 s
  | .jns_rel8 rel8 => Sys2Proof.Machine.execJns_rel8 rel8 s
  | .jnp_rel8 rel8 => Sys2Proof.Machine.execJnp_rel8 rel8 s
  | .jno_rel8 rel8 => Sys2Proof.Machine.execJno_rel8 rel8 s
  | .jnc_rel8 rel8 => Sys2Proof.Machine.execJnc_rel8 rel8 s
  | .jnz_rel8 rel8 => Sys2Proof.Machine.execJnz_rel8 rel8 s
  -- §2.3 item 3: branches on several flags
  | .jzc_rel8 rel8 => Sys2Proof.Machine.execJzc_rel8 rel8 s
  | .jso_rel8 rel8 => Sys2Proof.Machine.execJso_rel8 rel8 s
  | .jsonz_rel8 rel8 => Sys2Proof.Machine.execJsonz_rel8 rel8 s
  | .jnzc_rel8 rel8 => Sys2Proof.Machine.execJnzc_rel8 rel8 s
  | .jnso_rel8 rel8 => Sys2Proof.Machine.execJnso_rel8 rel8 s
  | .jznso_rel8 rel8 => Sys2Proof.Machine.execJznso_rel8 rel8 s
  -- §2.3 item 4: JEQZ, JNEQZ, LOOP
  | .jeqzA_rel8 rel8 => Sys2Proof.Machine.execJeqzA_rel8 rel8 s
  | .jeqzB_rel8 rel8 => Sys2Proof.Machine.execJeqzB_rel8 rel8 s
  | .jeqzC_rel8 rel8 => Sys2Proof.Machine.execJeqzC_rel8 rel8 s
  | .jeqzD_rel8 rel8 => Sys2Proof.Machine.execJeqzD_rel8 rel8 s
  | .jneqzA_rel8 rel8 => Sys2Proof.Machine.execJneqzA_rel8 rel8 s
  | .jneqzB_rel8 rel8 => Sys2Proof.Machine.execJneqzB_rel8 rel8 s
  | .jneqzC_rel8 rel8 => Sys2Proof.Machine.execJneqzC_rel8 rel8 s
  | .jneqzD_rel8 rel8 => Sys2Proof.Machine.execJneqzD_rel8 rel8 s
  | .loopA_rel8 rel8 => Sys2Proof.Machine.execLoopA_rel8 rel8 s
  | .loopB_rel8 rel8 => Sys2Proof.Machine.execLoopB_rel8 rel8 s
  | .loopC_rel8 rel8 => Sys2Proof.Machine.execLoopC_rel8 rel8 s
  | .loopD_rel8 rel8 => Sys2Proof.Machine.execLoopD_rel8 rel8 s
  -- §2.3 item 5: JMP
  | .jmp_imm16 imm16 => Sys2Proof.Machine.execJmp_imm16 imm16 s
  | .jmpAB => Sys2Proof.Machine.execJmpAB s
  | .jmpCD => Sys2Proof.Machine.execJmpCD s
  -- §2.3 item 6: CALL
  | .call_imm16 imm16 => Sys2Proof.Machine.execCall_imm16 imm16 s
  | .callAB => Sys2Proof.Machine.execCallAB s
  | .callCD => Sys2Proof.Machine.execCallCD s
  -- §2.3 item 7: RET
  | .ret => Sys2Proof.Machine.execRet s
  -- §2.4 item 1: CLC, CMC, STC
  | .clc => Sys2Proof.Machine.execClc s
  | .cmc => Sys2Proof.Machine.execCmc s
  | .stc => Sys2Proof.Machine.execStc s
  -- §2.4 item 2: HALT, NOP
  | .halt => Sys2Proof.Machine.execHalt s
  | .nop => Sys2Proof.Machine.execNop s

end Sys2Proof.Machine
end

