-- ==== Sys2Proof/Decode.lean ====
section
/-! DEFINITION. The decoder and the encoder (spec/30_encoding.md R60 to R64, R70, R75). `decodeWith` and `encodeWith` take the
configuration, `decode` and `encode` are theirs under `Config.spec`. -/

namespace Sys2Proof

/-- Why bytes are no instruction: fewer bytes than the opcode's format has, or (never, R71) an opcode that is no row. -/
inductive DecodeError
  | truncated
  | noSuchOpcode (opcode : Byte)
deriving DecidableEq, Repr

/-- One row of the table of R70: its format (R61), and the instruction its operand bytes give; `disp` is `F2` with a displacement. -/
inductive Row
  | f0 (i : Instr)
  | f1 (k : Byte → Instr)
  | f2 (k : Word → Instr)
  | disp (k : Word → Instr)
  | f3 (k : Word → Byte → Instr)

/-- The length of a row's instruction: 1 + its operand bytes (R62). -/
def Row.length (cfg : Config) : Row → Nat
  | .f0 _ => 1
  | .f1 _ => 2
  | .f2 _ => 3
  | .disp _ => (indexedLength cfg).toNat
  | .f3 _ => 4

/-- The operands taken from the bytes after the opcode (R61, R63, R64); the bytes after them are not read (R75). -/
def Row.assemble (cfg : Config) : Row → List Byte → Except DecodeError Instr
  | .f0 i, _ => .ok i
  | .f1 k, b1 :: _ => .ok (k b1)
  | .f2 k, b1 :: b2 :: _ => .ok (k (joinBytes cfg b1 b2))
  | .disp k, bytes =>
    match displacementOf cfg bytes with
    | some disp16 => .ok (k disp16)
    | none => .error .truncated
  | .f3 k, b1 :: b2 :: b3 :: _ =>
    match cfg.operandLayout with
    | .addressFirst => .ok (k (joinBytes cfg b1 b2) b3)
    | .immediateFirst => .ok (k (joinBytes cfg b2 b3) b1)
  | _, _ => .error .truncated

/-- R70, `0x00` to `0x23`: 8-bit `MOV` to a register. -/
def movReg8Rows : List Row := [
  .f1 .movA_imm8, .f0 .movA_B, .f0 .movA_C, .f0 .movA_D, -- 0x00
  .f2 .movA_atAddr, .f0 .movA_atAB, .f0 .movA_atCD, .disp .movA_atABdisp, -- 0x04
  .disp .movA_atCDdisp, .f1 .movB_imm8, .f0 .movB_A, .f0 .movB_C, -- 0x08
  .f0 .movB_D, .f2 .movB_atAddr, .f0 .movB_atAB, .f0 .movB_atCD, -- 0x0C
  .disp .movB_atABdisp, .disp .movB_atCDdisp, .f1 .movC_imm8, .f0 .movC_A, -- 0x10
  .f0 .movC_B, .f0 .movC_D, .f2 .movC_atAddr, .f0 .movC_atAB, -- 0x14
  .f0 .movC_atCD, .disp .movC_atABdisp, .disp .movC_atCDdisp, .f1 .movD_imm8, -- 0x18
  .f0 .movD_A, .f0 .movD_B, .f0 .movD_C, .f2 .movD_atAddr, -- 0x1C
  .f0 .movD_atAB, .f0 .movD_atCD, .disp .movD_atABdisp, .disp .movD_atCDdisp] -- 0x20

/-- R70, `0x24` to `0x30`: 8-bit `MOV` to memory. -/
def movMem8Rows : List Row := [
  .f2 .movAtAddr_A, .f2 .movAtAddr_B, .f2 .movAtAddr_C, .f2 .movAtAddr_D, -- 0x24
  .f0 .movAtAB_C, .f0 .movAtAB_D, .f0 .movAtCD_A, .f0 .movAtCD_B, -- 0x28
  .disp .movAtABdisp_C, .disp .movAtABdisp_D, .disp .movAtCDdisp_A, .disp .movAtCDdisp_B, -- 0x2C
  .f3 .movAtAddr_imm8] -- 0x30

/-- R70, `0x31` to `0x4B`: 16-bit `MOV`. -/
def mov16Rows : List Row := [
  .f2 .movAB_imm16, .f2 .movAB_atAddr, .f0 .movAB_atAB, .f0 .movAB_atCD, -- 0x31
  .disp .movAB_atABdisp, .disp .movAB_atCDdisp, .f0 .movAB_CD, .f0 .movAB_SP, -- 0x35
  .f2 .movCD_imm16, .f2 .movCD_atAddr, .f0 .movCD_atAB, .f0 .movCD_atCD, -- 0x39
  .disp .movCD_atABdisp, .disp .movCD_atCDdisp, .f0 .movCD_AB, .f0 .movCD_SP, -- 0x3D
  .f2 .movSP_imm16, .f2 .movSP_atAddr, .f0 .movSP_AB, .f0 .movSP_CD, -- 0x41
  .f2 .movAtAddr_AB, .f2 .movAtAddr_CD, .f2 .movAtAddr_SP, .f0 .movAtAB_CD, -- 0x45
  .f0 .movAtCD_AB, .disp .movAtABdisp_CD, .disp .movAtCDdisp_AB] -- 0x49

/-- R70, `0x4C` to `0x5F`: `IN`, `OUT`, `PUSH`, `POP`. -/
def ioStackRows : List Row := [
  .f0 .inA, .f0 .inB, .f0 .outA, .f0 .outB, -- 0x4C
  .f0 .pushA, .f0 .pushB, .f0 .pushC, .f0 .pushD, -- 0x50
  .f0 .pushF, .f2 .pushAtAddr, .f0 .popA, .f0 .popB, -- 0x54
  .f0 .popC, .f0 .popD, .f0 .popF, .f2 .popAtAddr, -- 0x58
  .f0 .pushAB, .f0 .pushCD, .f0 .popAB, .f0 .popCD] -- 0x5C

/-- R70, `0x60` to `0x81`: one-operand arithmetic and logic. -/
def unaryRows : List Row := [
  .f0 .decA, .f0 .decB, .f0 .decC, .f0 .decD, -- 0x60
  .f2 .decAtAddr, .f0 .incA, .f0 .incB, .f0 .incC, -- 0x64
  .f0 .incD, .f2 .incAtAddr, .f0 .decAB, .f0 .decCD, -- 0x68
  .f0 .decSP, .f0 .incAB, .f0 .incCD, .f0 .incSP, -- 0x6C
  .f0 .notA, .f0 .notB, .f0 .negA, .f0 .negB, -- 0x70
  .f0 .shlA, .f0 .shlB, .f0 .shrA, .f0 .shrB, -- 0x74
  .f0 .rlA, .f0 .rlB, .f0 .rrA, .f0 .rrB, -- 0x78
  .f0 .notAB, .f0 .negAB, .f0 .shlAB, .f0 .shrAB, -- 0x7C
  .f0 .rlAB, .f0 .rrAB] -- 0x80

/-- R70, `0x82` to `0xC1`: 8-bit two-operand arithmetic and logic. -/
def binary8Rows : List Row := [
  .f1 .subA_imm8, .f0 .subA_B, .f0 .subA_C, .f0 .subA_D, -- 0x82
  .f1 .subB_imm8, .f0 .subB_A, .f0 .subB_C, .f0 .subB_D, -- 0x86
  .f1 .addA_imm8, .f0 .addA_B, .f0 .addA_C, .f0 .addA_D, -- 0x8A
  .f1 .addB_imm8, .f0 .addB_A, .f0 .addB_C, .f0 .addB_D, -- 0x8E
  .f1 .sbbA_imm8, .f0 .sbbA_B, .f0 .sbbA_C, .f0 .sbbA_D, -- 0x92
  .f1 .sbbB_imm8, .f0 .sbbB_A, .f0 .sbbB_C, .f0 .sbbB_D, -- 0x96
  .f1 .adcA_imm8, .f0 .adcA_B, .f0 .adcA_C, .f0 .adcA_D, -- 0x9A
  .f1 .adcB_imm8, .f0 .adcB_A, .f0 .adcB_C, .f0 .adcB_D, -- 0x9E
  .f1 .cmpA_imm8, .f0 .cmpA_B, .f0 .cmpA_C, .f0 .cmpA_D, -- 0xA2
  .f1 .cmpB_imm8, .f0 .cmpB_A, .f0 .cmpB_C, .f0 .cmpB_D, -- 0xA6
  .f1 .andA_imm8, .f0 .andA_B, .f0 .andA_C, .f0 .andA_D, -- 0xAA
  .f1 .andB_imm8, .f0 .andB_A, .f0 .andB_C, .f0 .andB_D, -- 0xAE
  .f1 .xorA_imm8, .f0 .xorA_B, .f0 .xorA_C, .f0 .xorA_D, -- 0xB2
  .f1 .xorB_imm8, .f0 .xorB_A, .f0 .xorB_C, .f0 .xorB_D, -- 0xB6
  .f1 .orA_imm8, .f0 .orA_B, .f0 .orA_C, .f0 .orA_D, -- 0xBA
  .f1 .orB_imm8, .f0 .orB_A, .f0 .orB_C, .f0 .orB_D] -- 0xBE

/-- R70, `0xC2` to `0xD4`: 16-bit `ADD` and `SUB`, multiplication, division, `EXP`. -/
def alu16Rows : List Row := [
  .f2 .addAB_imm16, .f0 .addAB_CD, .f2 .addCD_imm16, .f0 .addCD_AB, -- 0xC2
  .f2 .addSP_imm16, .f0 .addSP_AB, .f0 .addSP_CD, .f2 .subAB_imm16, -- 0xC6
  .f0 .subAB_CD, .f2 .subCD_imm16, .f0 .subCD_AB, .f2 .subSP_imm16, -- 0xCA
  .f0 .subSP_AB, .f0 .subSP_CD, .f0 .mulA_D, .f0 .imulA_D, -- 0xCE
  .f0 .divAB_D, .f0 .idivAB_D, .f0 .expA_B] -- 0xD2

/-- R70, `0xD5` to `0xFA`: branches. -/
def branchRows : List Row := [
  .f1 .jr_rel8, .f0 .jrA, .f0 .jrB, .f1 .js_rel8, -- 0xD5
  .f1 .jp_rel8, .f1 .jo_rel8, .f1 .jc_rel8, .f1 .jz_rel8, -- 0xD9
  .f1 .jns_rel8, .f1 .jnp_rel8, .f1 .jno_rel8, .f1 .jnc_rel8, -- 0xDD
  .f1 .jnz_rel8, .f1 .jzc_rel8, .f1 .jso_rel8, .f1 .jsonz_rel8, -- 0xE1
  .f1 .jnzc_rel8, .f1 .jnso_rel8, .f1 .jznso_rel8, .f1 .jeqzA_rel8, -- 0xE5
  .f1 .jeqzB_rel8, .f1 .jeqzC_rel8, .f1 .jeqzD_rel8, .f1 .jneqzA_rel8, -- 0xE9
  .f1 .jneqzB_rel8, .f1 .jneqzC_rel8, .f1 .jneqzD_rel8, .f1 .loopA_rel8, -- 0xED
  .f1 .loopB_rel8, .f1 .loopC_rel8, .f1 .loopD_rel8, .f2 .jmp_imm16, -- 0xF1
  .f0 .jmpAB, .f0 .jmpCD, .f2 .call_imm16, .f0 .callAB, -- 0xF5
  .f0 .callCD, .f0 .ret] -- 0xF9

/-- R70, `0xFB` to `0xFF`: control. -/
def controlRows : List Row := [
  .f0 .clc, .f0 .cmc, .f0 .stc, .f0 .halt, -- 0xFB
  .f0 .nop] -- 0xFF

/-- The 256 rows of R70 in its order. -/
def opcodeRows : List Row :=
  movReg8Rows ++ movMem8Rows ++ mov16Rows ++ ioStackRows ++ unaryRows ++
    binary8Rows ++ alu16Rows ++ branchRows ++ controlRows

/-- The row of an opcode byte (R60, R70, `OPCODE_MAP`). -/
def rowOf (cfg : Config) (opcode : Byte) : Option Row := opcodeRows[(cfg.opcodeMap.symm opcode).toNat]?

/-- The decoder (R75): the instruction at the head of the bytes. -/
def decodeWith (cfg : Config) : List Byte → Except DecodeError Instr
  | [] => .error .truncated
  | opcode :: rest =>
    match rowOf cfg opcode with
    | some row => row.assemble cfg rest
    | none => .error (.noSuchOpcode opcode)

/-- The decoder (R75), under the configuration of the spec. -/
def decode (bytes : List Byte) : Except DecodeError Instr := decodeWith Config.spec bytes

/-- How many bytes the instruction with this opcode byte has (R62). -/
def lengthOfOpcode (cfg : Config) (opcode : Byte) : Option Nat := (rowOf cfg opcode).map (Row.length cfg)

/-! ### The encoder -/

/-- The operand bytes of the format `F3` (R61, R64). -/
def encodeF3 (cfg : Config) (addr16 : Word) (imm8 : Byte) : List Byte :=
  match cfg.operandLayout with
  | .addressFirst => [firstByte cfg addr16, secondByte cfg addr16, imm8]
  | .immediateFirst => [imm8, firstByte cfg addr16, secondByte cfg addr16]

/-- The operand bytes of the format `F2` (R61, R64). -/
def encodeF2 (cfg : Config) (w : Word) : List Byte := [firstByte cfg w, secondByte cfg w]

/-- The bytes of an instruction (R61, R70): its opcode, then its operand bytes. -/
def encodeWith (cfg : Config) : Instr → List Byte
  | .movA_imm8 imm8 => [cfg.opcodeMap 0x00, imm8]
  | .movA_B => [cfg.opcodeMap 0x01]
  | .movA_C => [cfg.opcodeMap 0x02]
  | .movA_D => [cfg.opcodeMap 0x03]
  | .movA_atAddr addr16 => cfg.opcodeMap 0x04 :: encodeF2 cfg addr16
  | .movA_atAB => [cfg.opcodeMap 0x05]
  | .movA_atCD => [cfg.opcodeMap 0x06]
  | .movA_atABdisp disp16 => cfg.opcodeMap 0x07 :: displacementBytes cfg disp16
  | .movA_atCDdisp disp16 => cfg.opcodeMap 0x08 :: displacementBytes cfg disp16
  | .movB_imm8 imm8 => [cfg.opcodeMap 0x09, imm8]
  | .movB_A => [cfg.opcodeMap 0x0A]
  | .movB_C => [cfg.opcodeMap 0x0B]
  | .movB_D => [cfg.opcodeMap 0x0C]
  | .movB_atAddr addr16 => cfg.opcodeMap 0x0D :: encodeF2 cfg addr16
  | .movB_atAB => [cfg.opcodeMap 0x0E]
  | .movB_atCD => [cfg.opcodeMap 0x0F]
  | .movB_atABdisp disp16 => cfg.opcodeMap 0x10 :: displacementBytes cfg disp16
  | .movB_atCDdisp disp16 => cfg.opcodeMap 0x11 :: displacementBytes cfg disp16
  | .movC_imm8 imm8 => [cfg.opcodeMap 0x12, imm8]
  | .movC_A => [cfg.opcodeMap 0x13]
  | .movC_B => [cfg.opcodeMap 0x14]
  | .movC_D => [cfg.opcodeMap 0x15]
  | .movC_atAddr addr16 => cfg.opcodeMap 0x16 :: encodeF2 cfg addr16
  | .movC_atAB => [cfg.opcodeMap 0x17]
  | .movC_atCD => [cfg.opcodeMap 0x18]
  | .movC_atABdisp disp16 => cfg.opcodeMap 0x19 :: displacementBytes cfg disp16
  | .movC_atCDdisp disp16 => cfg.opcodeMap 0x1A :: displacementBytes cfg disp16
  | .movD_imm8 imm8 => [cfg.opcodeMap 0x1B, imm8]
  | .movD_A => [cfg.opcodeMap 0x1C]
  | .movD_B => [cfg.opcodeMap 0x1D]
  | .movD_C => [cfg.opcodeMap 0x1E]
  | .movD_atAddr addr16 => cfg.opcodeMap 0x1F :: encodeF2 cfg addr16
  | .movD_atAB => [cfg.opcodeMap 0x20]
  | .movD_atCD => [cfg.opcodeMap 0x21]
  | .movD_atABdisp disp16 => cfg.opcodeMap 0x22 :: displacementBytes cfg disp16
  | .movD_atCDdisp disp16 => cfg.opcodeMap 0x23 :: displacementBytes cfg disp16
  | .movAtAddr_A addr16 => cfg.opcodeMap 0x24 :: encodeF2 cfg addr16
  | .movAtAddr_B addr16 => cfg.opcodeMap 0x25 :: encodeF2 cfg addr16
  | .movAtAddr_C addr16 => cfg.opcodeMap 0x26 :: encodeF2 cfg addr16
  | .movAtAddr_D addr16 => cfg.opcodeMap 0x27 :: encodeF2 cfg addr16
  | .movAtAB_C => [cfg.opcodeMap 0x28]
  | .movAtAB_D => [cfg.opcodeMap 0x29]
  | .movAtCD_A => [cfg.opcodeMap 0x2A]
  | .movAtCD_B => [cfg.opcodeMap 0x2B]
  | .movAtABdisp_C disp16 => cfg.opcodeMap 0x2C :: displacementBytes cfg disp16
  | .movAtABdisp_D disp16 => cfg.opcodeMap 0x2D :: displacementBytes cfg disp16
  | .movAtCDdisp_A disp16 => cfg.opcodeMap 0x2E :: displacementBytes cfg disp16
  | .movAtCDdisp_B disp16 => cfg.opcodeMap 0x2F :: displacementBytes cfg disp16
  | .movAtAddr_imm8 addr16 imm8 => cfg.opcodeMap 0x30 :: encodeF3 cfg addr16 imm8
  | .movAB_imm16 imm16 => cfg.opcodeMap 0x31 :: encodeF2 cfg imm16
  | .movAB_atAddr addr16 => cfg.opcodeMap 0x32 :: encodeF2 cfg addr16
  | .movAB_atAB => [cfg.opcodeMap 0x33]
  | .movAB_atCD => [cfg.opcodeMap 0x34]
  | .movAB_atABdisp disp16 => cfg.opcodeMap 0x35 :: displacementBytes cfg disp16
  | .movAB_atCDdisp disp16 => cfg.opcodeMap 0x36 :: displacementBytes cfg disp16
  | .movAB_CD => [cfg.opcodeMap 0x37]
  | .movAB_SP => [cfg.opcodeMap 0x38]
  | .movCD_imm16 imm16 => cfg.opcodeMap 0x39 :: encodeF2 cfg imm16
  | .movCD_atAddr addr16 => cfg.opcodeMap 0x3A :: encodeF2 cfg addr16
  | .movCD_atAB => [cfg.opcodeMap 0x3B]
  | .movCD_atCD => [cfg.opcodeMap 0x3C]
  | .movCD_atABdisp disp16 => cfg.opcodeMap 0x3D :: displacementBytes cfg disp16
  | .movCD_atCDdisp disp16 => cfg.opcodeMap 0x3E :: displacementBytes cfg disp16
  | .movCD_AB => [cfg.opcodeMap 0x3F]
  | .movCD_SP => [cfg.opcodeMap 0x40]
  | .movSP_imm16 imm16 => cfg.opcodeMap 0x41 :: encodeF2 cfg imm16
  | .movSP_atAddr addr16 => cfg.opcodeMap 0x42 :: encodeF2 cfg addr16
  | .movSP_AB => [cfg.opcodeMap 0x43]
  | .movSP_CD => [cfg.opcodeMap 0x44]
  | .movAtAddr_AB addr16 => cfg.opcodeMap 0x45 :: encodeF2 cfg addr16
  | .movAtAddr_CD addr16 => cfg.opcodeMap 0x46 :: encodeF2 cfg addr16
  | .movAtAddr_SP addr16 => cfg.opcodeMap 0x47 :: encodeF2 cfg addr16
  | .movAtAB_CD => [cfg.opcodeMap 0x48]
  | .movAtCD_AB => [cfg.opcodeMap 0x49]
  | .movAtABdisp_CD disp16 => cfg.opcodeMap 0x4A :: displacementBytes cfg disp16
  | .movAtCDdisp_AB disp16 => cfg.opcodeMap 0x4B :: displacementBytes cfg disp16
  | .inA => [cfg.opcodeMap 0x4C]
  | .inB => [cfg.opcodeMap 0x4D]
  | .outA => [cfg.opcodeMap 0x4E]
  | .outB => [cfg.opcodeMap 0x4F]
  | .pushA => [cfg.opcodeMap 0x50]
  | .pushB => [cfg.opcodeMap 0x51]
  | .pushC => [cfg.opcodeMap 0x52]
  | .pushD => [cfg.opcodeMap 0x53]
  | .pushF => [cfg.opcodeMap 0x54]
  | .pushAtAddr addr16 => cfg.opcodeMap 0x55 :: encodeF2 cfg addr16
  | .popA => [cfg.opcodeMap 0x56]
  | .popB => [cfg.opcodeMap 0x57]
  | .popC => [cfg.opcodeMap 0x58]
  | .popD => [cfg.opcodeMap 0x59]
  | .popF => [cfg.opcodeMap 0x5A]
  | .popAtAddr addr16 => cfg.opcodeMap 0x5B :: encodeF2 cfg addr16
  | .pushAB => [cfg.opcodeMap 0x5C]
  | .pushCD => [cfg.opcodeMap 0x5D]
  | .popAB => [cfg.opcodeMap 0x5E]
  | .popCD => [cfg.opcodeMap 0x5F]
  | .decA => [cfg.opcodeMap 0x60]
  | .decB => [cfg.opcodeMap 0x61]
  | .decC => [cfg.opcodeMap 0x62]
  | .decD => [cfg.opcodeMap 0x63]
  | .decAtAddr addr16 => cfg.opcodeMap 0x64 :: encodeF2 cfg addr16
  | .incA => [cfg.opcodeMap 0x65]
  | .incB => [cfg.opcodeMap 0x66]
  | .incC => [cfg.opcodeMap 0x67]
  | .incD => [cfg.opcodeMap 0x68]
  | .incAtAddr addr16 => cfg.opcodeMap 0x69 :: encodeF2 cfg addr16
  | .decAB => [cfg.opcodeMap 0x6A]
  | .decCD => [cfg.opcodeMap 0x6B]
  | .decSP => [cfg.opcodeMap 0x6C]
  | .incAB => [cfg.opcodeMap 0x6D]
  | .incCD => [cfg.opcodeMap 0x6E]
  | .incSP => [cfg.opcodeMap 0x6F]
  | .notA => [cfg.opcodeMap 0x70]
  | .notB => [cfg.opcodeMap 0x71]
  | .negA => [cfg.opcodeMap 0x72]
  | .negB => [cfg.opcodeMap 0x73]
  | .shlA => [cfg.opcodeMap 0x74]
  | .shlB => [cfg.opcodeMap 0x75]
  | .shrA => [cfg.opcodeMap 0x76]
  | .shrB => [cfg.opcodeMap 0x77]
  | .rlA => [cfg.opcodeMap 0x78]
  | .rlB => [cfg.opcodeMap 0x79]
  | .rrA => [cfg.opcodeMap 0x7A]
  | .rrB => [cfg.opcodeMap 0x7B]
  | .notAB => [cfg.opcodeMap 0x7C]
  | .negAB => [cfg.opcodeMap 0x7D]
  | .shlAB => [cfg.opcodeMap 0x7E]
  | .shrAB => [cfg.opcodeMap 0x7F]
  | .rlAB => [cfg.opcodeMap 0x80]
  | .rrAB => [cfg.opcodeMap 0x81]
  | .subA_imm8 imm8 => [cfg.opcodeMap 0x82, imm8]
  | .subA_B => [cfg.opcodeMap 0x83]
  | .subA_C => [cfg.opcodeMap 0x84]
  | .subA_D => [cfg.opcodeMap 0x85]
  | .subB_imm8 imm8 => [cfg.opcodeMap 0x86, imm8]
  | .subB_A => [cfg.opcodeMap 0x87]
  | .subB_C => [cfg.opcodeMap 0x88]
  | .subB_D => [cfg.opcodeMap 0x89]
  | .addA_imm8 imm8 => [cfg.opcodeMap 0x8A, imm8]
  | .addA_B => [cfg.opcodeMap 0x8B]
  | .addA_C => [cfg.opcodeMap 0x8C]
  | .addA_D => [cfg.opcodeMap 0x8D]
  | .addB_imm8 imm8 => [cfg.opcodeMap 0x8E, imm8]
  | .addB_A => [cfg.opcodeMap 0x8F]
  | .addB_C => [cfg.opcodeMap 0x90]
  | .addB_D => [cfg.opcodeMap 0x91]
  | .sbbA_imm8 imm8 => [cfg.opcodeMap 0x92, imm8]
  | .sbbA_B => [cfg.opcodeMap 0x93]
  | .sbbA_C => [cfg.opcodeMap 0x94]
  | .sbbA_D => [cfg.opcodeMap 0x95]
  | .sbbB_imm8 imm8 => [cfg.opcodeMap 0x96, imm8]
  | .sbbB_A => [cfg.opcodeMap 0x97]
  | .sbbB_C => [cfg.opcodeMap 0x98]
  | .sbbB_D => [cfg.opcodeMap 0x99]
  | .adcA_imm8 imm8 => [cfg.opcodeMap 0x9A, imm8]
  | .adcA_B => [cfg.opcodeMap 0x9B]
  | .adcA_C => [cfg.opcodeMap 0x9C]
  | .adcA_D => [cfg.opcodeMap 0x9D]
  | .adcB_imm8 imm8 => [cfg.opcodeMap 0x9E, imm8]
  | .adcB_A => [cfg.opcodeMap 0x9F]
  | .adcB_C => [cfg.opcodeMap 0xA0]
  | .adcB_D => [cfg.opcodeMap 0xA1]
  | .cmpA_imm8 imm8 => [cfg.opcodeMap 0xA2, imm8]
  | .cmpA_B => [cfg.opcodeMap 0xA3]
  | .cmpA_C => [cfg.opcodeMap 0xA4]
  | .cmpA_D => [cfg.opcodeMap 0xA5]
  | .cmpB_imm8 imm8 => [cfg.opcodeMap 0xA6, imm8]
  | .cmpB_A => [cfg.opcodeMap 0xA7]
  | .cmpB_C => [cfg.opcodeMap 0xA8]
  | .cmpB_D => [cfg.opcodeMap 0xA9]
  | .andA_imm8 imm8 => [cfg.opcodeMap 0xAA, imm8]
  | .andA_B => [cfg.opcodeMap 0xAB]
  | .andA_C => [cfg.opcodeMap 0xAC]
  | .andA_D => [cfg.opcodeMap 0xAD]
  | .andB_imm8 imm8 => [cfg.opcodeMap 0xAE, imm8]
  | .andB_A => [cfg.opcodeMap 0xAF]
  | .andB_C => [cfg.opcodeMap 0xB0]
  | .andB_D => [cfg.opcodeMap 0xB1]
  | .xorA_imm8 imm8 => [cfg.opcodeMap 0xB2, imm8]
  | .xorA_B => [cfg.opcodeMap 0xB3]
  | .xorA_C => [cfg.opcodeMap 0xB4]
  | .xorA_D => [cfg.opcodeMap 0xB5]
  | .xorB_imm8 imm8 => [cfg.opcodeMap 0xB6, imm8]
  | .xorB_A => [cfg.opcodeMap 0xB7]
  | .xorB_C => [cfg.opcodeMap 0xB8]
  | .xorB_D => [cfg.opcodeMap 0xB9]
  | .orA_imm8 imm8 => [cfg.opcodeMap 0xBA, imm8]
  | .orA_B => [cfg.opcodeMap 0xBB]
  | .orA_C => [cfg.opcodeMap 0xBC]
  | .orA_D => [cfg.opcodeMap 0xBD]
  | .orB_imm8 imm8 => [cfg.opcodeMap 0xBE, imm8]
  | .orB_A => [cfg.opcodeMap 0xBF]
  | .orB_C => [cfg.opcodeMap 0xC0]
  | .orB_D => [cfg.opcodeMap 0xC1]
  | .addAB_imm16 imm16 => cfg.opcodeMap 0xC2 :: encodeF2 cfg imm16
  | .addAB_CD => [cfg.opcodeMap 0xC3]
  | .addCD_imm16 imm16 => cfg.opcodeMap 0xC4 :: encodeF2 cfg imm16
  | .addCD_AB => [cfg.opcodeMap 0xC5]
  | .addSP_imm16 imm16 => cfg.opcodeMap 0xC6 :: encodeF2 cfg imm16
  | .addSP_AB => [cfg.opcodeMap 0xC7]
  | .addSP_CD => [cfg.opcodeMap 0xC8]
  | .subAB_imm16 imm16 => cfg.opcodeMap 0xC9 :: encodeF2 cfg imm16
  | .subAB_CD => [cfg.opcodeMap 0xCA]
  | .subCD_imm16 imm16 => cfg.opcodeMap 0xCB :: encodeF2 cfg imm16
  | .subCD_AB => [cfg.opcodeMap 0xCC]
  | .subSP_imm16 imm16 => cfg.opcodeMap 0xCD :: encodeF2 cfg imm16
  | .subSP_AB => [cfg.opcodeMap 0xCE]
  | .subSP_CD => [cfg.opcodeMap 0xCF]
  | .mulA_D => [cfg.opcodeMap 0xD0]
  | .imulA_D => [cfg.opcodeMap 0xD1]
  | .divAB_D => [cfg.opcodeMap 0xD2]
  | .idivAB_D => [cfg.opcodeMap 0xD3]
  | .expA_B => [cfg.opcodeMap 0xD4]
  | .jr_rel8 rel8 => [cfg.opcodeMap 0xD5, rel8]
  | .jrA => [cfg.opcodeMap 0xD6]
  | .jrB => [cfg.opcodeMap 0xD7]
  | .js_rel8 rel8 => [cfg.opcodeMap 0xD8, rel8]
  | .jp_rel8 rel8 => [cfg.opcodeMap 0xD9, rel8]
  | .jo_rel8 rel8 => [cfg.opcodeMap 0xDA, rel8]
  | .jc_rel8 rel8 => [cfg.opcodeMap 0xDB, rel8]
  | .jz_rel8 rel8 => [cfg.opcodeMap 0xDC, rel8]
  | .jns_rel8 rel8 => [cfg.opcodeMap 0xDD, rel8]
  | .jnp_rel8 rel8 => [cfg.opcodeMap 0xDE, rel8]
  | .jno_rel8 rel8 => [cfg.opcodeMap 0xDF, rel8]
  | .jnc_rel8 rel8 => [cfg.opcodeMap 0xE0, rel8]
  | .jnz_rel8 rel8 => [cfg.opcodeMap 0xE1, rel8]
  | .jzc_rel8 rel8 => [cfg.opcodeMap 0xE2, rel8]
  | .jso_rel8 rel8 => [cfg.opcodeMap 0xE3, rel8]
  | .jsonz_rel8 rel8 => [cfg.opcodeMap 0xE4, rel8]
  | .jnzc_rel8 rel8 => [cfg.opcodeMap 0xE5, rel8]
  | .jnso_rel8 rel8 => [cfg.opcodeMap 0xE6, rel8]
  | .jznso_rel8 rel8 => [cfg.opcodeMap 0xE7, rel8]
  | .jeqzA_rel8 rel8 => [cfg.opcodeMap 0xE8, rel8]
  | .jeqzB_rel8 rel8 => [cfg.opcodeMap 0xE9, rel8]
  | .jeqzC_rel8 rel8 => [cfg.opcodeMap 0xEA, rel8]
  | .jeqzD_rel8 rel8 => [cfg.opcodeMap 0xEB, rel8]
  | .jneqzA_rel8 rel8 => [cfg.opcodeMap 0xEC, rel8]
  | .jneqzB_rel8 rel8 => [cfg.opcodeMap 0xED, rel8]
  | .jneqzC_rel8 rel8 => [cfg.opcodeMap 0xEE, rel8]
  | .jneqzD_rel8 rel8 => [cfg.opcodeMap 0xEF, rel8]
  | .loopA_rel8 rel8 => [cfg.opcodeMap 0xF0, rel8]
  | .loopB_rel8 rel8 => [cfg.opcodeMap 0xF1, rel8]
  | .loopC_rel8 rel8 => [cfg.opcodeMap 0xF2, rel8]
  | .loopD_rel8 rel8 => [cfg.opcodeMap 0xF3, rel8]
  | .jmp_imm16 imm16 => cfg.opcodeMap 0xF4 :: encodeF2 cfg imm16
  | .jmpAB => [cfg.opcodeMap 0xF5]
  | .jmpCD => [cfg.opcodeMap 0xF6]
  | .call_imm16 imm16 => cfg.opcodeMap 0xF7 :: encodeF2 cfg imm16
  | .callAB => [cfg.opcodeMap 0xF8]
  | .callCD => [cfg.opcodeMap 0xF9]
  | .ret => [cfg.opcodeMap 0xFA]
  | .clc => [cfg.opcodeMap 0xFB]
  | .cmc => [cfg.opcodeMap 0xFC]
  | .stc => [cfg.opcodeMap 0xFD]
  | .halt => [cfg.opcodeMap 0xFE]
  | .nop => [cfg.opcodeMap 0xFF]

/-- The bytes of an instruction, under the configuration of the spec. -/
def encode (i : Instr) : List Byte := encodeWith Config.spec i

/-- The length of an instruction in bytes (R62), under the configuration of the spec. -/
def Instr.length (i : Instr) : Nat := (encode i).length

/-! ### The words of spec/opcode_table.json -/

/-- The four bytes of a table word: byte `k` is bits `8k+7 .. 8k` of its first `nbits` bits, every bit above them 0. -/
def tableWordBytes (nbits w : Nat) : List Byte :=
  [0, 1, 2, 3].map fun k => BitVec.ofNat 8 (w % 2 ^ nbits / 2 ^ (8 * k))

/-- The instruction the decoder reads from a table word. -/
def decodeTableWord (nbits w : Nat) : Option Instr :=
  match decode (tableWordBytes nbits w) with
  | .ok i => some i
  | .error _ => none

end Sys2Proof
end

