-- ==== Sys2Proof/Machine/Fetch.lean ====
section
/-! DEFINITION. Fetching an instruction, and the instruction cycle (spec/10_state.md R14). -/

namespace Sys2Proof.Machine

/-- The `n` bytes from an address on, the lower address first, addresses modulo 2^16 (R14, R15). -/
def readBytes (cfg : Config) : Nat → Word → State → Res (List Byte)
  | 0, _, _ => .next []
  | n + 1, a, s =>
    andThen (readByte cfg a s) fun v =>
    andThen (readBytes cfg n (a + 1) s) fun rest =>
    .next (v :: rest)

/-- The instruction at `pc`: the opcode gives its length, and only its own bytes are read (R14, R62, R75). -/
def fetch (cfg : Config) (s : State) : Res Instr :=
  andThen (readByte cfg s.ip s) fun opcode =>
  match lengthOfOpcode cfg opcode with
  | none => .refused (.undecodable opcode)
  | some len =>
    andThen (readBytes cfg len s.ip s) fun bytes =>
    match decodeWith cfg bytes with
    | .ok i => .next i
    | .error _ => .refused (.undecodable opcode)

/-- One turn of the instruction cycle, `run` being what executes an instruction: while not halted, the instruction at `pc` is fetched
and executed (R14). A halted machine has no next state (R33). -/
def cycle (cfg : Config) (run : Instr → State → Res State) (s : State) : Res State :=
  if s.halted then raise .halted
  else andThen (fetch cfg s) fun i => run i s

/-- The bytes stored from an address on, addresses modulo 2^16. -/
def Memory.putBytes (m : Memory) (a : Word) : List Byte → Memory
  | [] => m
  | v :: rest => Memory.putBytes (Memory.put m a.toNat v) (a + 1) rest

end Sys2Proof.Machine
end

