-- ==== Sys2Proof/Machine/Step.lean ====
section
/-! DEFINITION. One step (spec/10_state.md R14, R33). -/

namespace Sys2Proof.Machine

/-- One step under the configuration of the spec (R14, R33). -/
def step (s : State) : Host.Outcome State Fault Refusal :=
  cycle Config.spec exec s

/-- `s` with a table word's instruction (its bits above `nbits` zero, four bytes) where `step` fetches its next instruction,
and not halted, so that the next step runs it. -/
def State.withFetchWord (s : State) (nbits w : Nat) : State :=
  { s with mem := Memory.putBytes s.mem s.ip (tableWordBytes nbits w), halted := false }

end Sys2Proof.Machine
end

