-- ==== Sys2Proof/Machine/AnyConfig.lean ====
section
/-! DEFINITION. The machine under any configuration (spec/00_scope.md R3, spec/30_encoding.md R70): the dispatch and the step, with
the configuration an argument. `exec` and `step` are these under `Config.spec` (Sys2Proof/Laws/AnyConfig.lean). -/

namespace Sys2Proof.Machine

/-- `exec` under a configuration. -/
def execWith (cfg : Config) (i : Instr) (s : State) : Res State :=
  match i with
  -- §2.1 item 1: 8-bit MOV to a register
  | .movA_imm8 imm8 => execMovA_imm8 imm8 s cfg
  | .movA_B => execMovA_B s cfg
  | .movA_C => execMovA_C s cfg
  | .movA_D => execMovA_D s cfg
  | .movA_atAddr addr16 => execMovA_atAddr addr16 s cfg
  | .movA_atAB => execMovA_atAB s cfg
  | .movA_atCD => execMovA_atCD s cfg
  | .movA_atABdisp disp16 => execMovA_atABdisp disp16 s cfg
  | .movA_atCDdisp disp16 => execMovA_atCDdisp disp16 s cfg
  | .movB_imm8 imm8 => execMovB_imm8 imm8 s cfg
  | .movB_A => execMovB_A s cfg
  | .movB_C => execMovB_C s cfg
  | .movB_D => execMovB_D s cfg
  | .movB_atAddr addr16 => execMovB_atAddr addr16 s cfg
  | .movB_atAB => execMovB_atAB s cfg
  | .movB_atCD => execMovB_atCD s cfg
  | .movB_atABdisp disp16 => execMovB_atABdisp disp16 s cfg
  | .movB_atCDdisp disp16 => execMovB_atCDdisp disp16 s cfg
  | .movC_imm8 imm8 => execMovC_imm8 imm8 s cfg
  | .movC_A => execMovC_A s cfg
  | .movC_B => execMovC_B s cfg
  | .movC_D => execMovC_D s cfg
  | .movC_atAddr addr16 => execMovC_atAddr addr16 s cfg
  | .movC_atAB => execMovC_atAB s cfg
  | .movC_atCD => execMovC_atCD s cfg
  | .movC_atABdisp disp16 => execMovC_atABdisp disp16 s cfg
  | .movC_atCDdisp disp16 => execMovC_atCDdisp disp16 s cfg
  | .movD_imm8 imm8 => execMovD_imm8 imm8 s cfg
  | .movD_A => execMovD_A s cfg
  | .movD_B => execMovD_B s cfg
  | .movD_C => execMovD_C s cfg
  | .movD_atAddr addr16 => execMovD_atAddr addr16 s cfg
  | .movD_atAB => execMovD_atAB s cfg
  | .movD_atCD => execMovD_atCD s cfg
  | .movD_atABdisp disp16 => execMovD_atABdisp disp16 s cfg
  | .movD_atCDdisp disp16 => execMovD_atCDdisp disp16 s cfg
  -- §2.1 item 2: 8-bit MOV to memory
  | .movAtAddr_A addr16 => execMovAtAddr_A addr16 s cfg
  | .movAtAddr_B addr16 => execMovAtAddr_B addr16 s cfg
  | .movAtAddr_C addr16 => execMovAtAddr_C addr16 s cfg
  | .movAtAddr_D addr16 => execMovAtAddr_D addr16 s cfg
  | .movAtAB_C => execMovAtAB_C s cfg
  | .movAtAB_D => execMovAtAB_D s cfg
  | .movAtCD_A => execMovAtCD_A s cfg
  | .movAtCD_B => execMovAtCD_B s cfg
  | .movAtABdisp_C disp16 => execMovAtABdisp_C disp16 s cfg
  | .movAtABdisp_D disp16 => execMovAtABdisp_D disp16 s cfg
  | .movAtCDdisp_A disp16 => execMovAtCDdisp_A disp16 s cfg
  | .movAtCDdisp_B disp16 => execMovAtCDdisp_B disp16 s cfg
  | .movAtAddr_imm8 addr16 imm8 => execMovAtAddr_imm8 addr16 imm8 s cfg
  -- §2.1 item 3: 16-bit MOV to a pair
  | .movAB_imm16 imm16 => execMovAB_imm16 imm16 s cfg
  | .movAB_atAddr addr16 => execMovAB_atAddr addr16 s cfg
  | .movAB_atAB => execMovAB_atAB s cfg
  | .movAB_atCD => execMovAB_atCD s cfg
  | .movAB_atABdisp disp16 => execMovAB_atABdisp disp16 s cfg
  | .movAB_atCDdisp disp16 => execMovAB_atCDdisp disp16 s cfg
  | .movAB_CD => execMovAB_CD s cfg
  | .movAB_SP => execMovAB_SP s cfg
  | .movCD_imm16 imm16 => execMovCD_imm16 imm16 s cfg
  | .movCD_atAddr addr16 => execMovCD_atAddr addr16 s cfg
  | .movCD_atAB => execMovCD_atAB s cfg
  | .movCD_atCD => execMovCD_atCD s cfg
  | .movCD_atABdisp disp16 => execMovCD_atABdisp disp16 s cfg
  | .movCD_atCDdisp disp16 => execMovCD_atCDdisp disp16 s cfg
  | .movCD_AB => execMovCD_AB s cfg
  | .movCD_SP => execMovCD_SP s cfg
  -- §2.1 item 4: 16-bit MOV to SP
  | .movSP_imm16 imm16 => execMovSP_imm16 imm16 s cfg
  | .movSP_atAddr addr16 => execMovSP_atAddr addr16 s cfg
  | .movSP_AB => execMovSP_AB s cfg
  | .movSP_CD => execMovSP_CD s cfg
  -- §2.1 item 5: 16-bit MOV to memory
  | .movAtAddr_AB addr16 => execMovAtAddr_AB addr16 s cfg
  | .movAtAddr_CD addr16 => execMovAtAddr_CD addr16 s cfg
  | .movAtAddr_SP addr16 => execMovAtAddr_SP addr16 s cfg
  | .movAtAB_CD => execMovAtAB_CD s cfg
  | .movAtCD_AB => execMovAtCD_AB s cfg
  | .movAtABdisp_CD disp16 => execMovAtABdisp_CD disp16 s cfg
  | .movAtCDdisp_AB disp16 => execMovAtCDdisp_AB disp16 s cfg
  -- §2.1 item 6: IN, OUT
  | .inA => execInA s cfg
  | .inB => execInB s cfg
  | .outA => execOutA s cfg
  | .outB => execOutB s cfg
  -- §2.1 item 7: 8-bit PUSH, POP
  | .pushA => execPushA s cfg
  | .pushB => execPushB s cfg
  | .pushC => execPushC s cfg
  | .pushD => execPushD s cfg
  | .pushF => execPushF s cfg
  | .pushAtAddr addr16 => execPushAtAddr addr16 s cfg
  | .popA => execPopA s cfg
  | .popB => execPopB s cfg
  | .popC => execPopC s cfg
  | .popD => execPopD s cfg
  | .popF => execPopF s cfg
  | .popAtAddr addr16 => execPopAtAddr addr16 s cfg
  -- §2.1 item 8: 16-bit PUSH, POP
  | .pushAB => execPushAB s cfg
  | .pushCD => execPushCD s cfg
  | .popAB => execPopAB s cfg
  | .popCD => execPopCD s cfg
  -- §2.2 item 1: 8-bit DEC, INC
  | .decA => execDecA s cfg
  | .decB => execDecB s cfg
  | .decC => execDecC s cfg
  | .decD => execDecD s cfg
  | .decAtAddr addr16 => execDecAtAddr addr16 s cfg
  | .incA => execIncA s cfg
  | .incB => execIncB s cfg
  | .incC => execIncC s cfg
  | .incD => execIncD s cfg
  | .incAtAddr addr16 => execIncAtAddr addr16 s cfg
  -- §2.2 item 2: 16-bit DEC, INC
  | .decAB => execDecAB s cfg
  | .decCD => execDecCD s cfg
  | .decSP => execDecSP s cfg
  | .incAB => execIncAB s cfg
  | .incCD => execIncCD s cfg
  | .incSP => execIncSP s cfg
  -- §2.2 item 3: other 8-bit unary operations
  | .notA => execNotA s cfg
  | .notB => execNotB s cfg
  | .negA => execNegA s cfg
  | .negB => execNegB s cfg
  | .shlA => execShlA s cfg
  | .shlB => execShlB s cfg
  | .shrA => execShrA s cfg
  | .shrB => execShrB s cfg
  | .rlA => execRlA s cfg
  | .rlB => execRlB s cfg
  | .rrA => execRrA s cfg
  | .rrB => execRrB s cfg
  -- §2.2 item 4: other 16-bit unary operations
  | .notAB => execNotAB s cfg
  | .negAB => execNegAB s cfg
  | .shlAB => execShlAB s cfg
  | .shrAB => execShrAB s cfg
  | .rlAB => execRlAB s cfg
  | .rrAB => execRrAB s cfg
  -- §2.2 item 5: 8-bit binary operations
  | .subA_imm8 imm8 => execSubA_imm8 imm8 s cfg
  | .subA_B => execSubA_B s cfg
  | .subA_C => execSubA_C s cfg
  | .subA_D => execSubA_D s cfg
  | .subB_imm8 imm8 => execSubB_imm8 imm8 s cfg
  | .subB_A => execSubB_A s cfg
  | .subB_C => execSubB_C s cfg
  | .subB_D => execSubB_D s cfg
  | .addA_imm8 imm8 => execAddA_imm8 imm8 s cfg
  | .addA_B => execAddA_B s cfg
  | .addA_C => execAddA_C s cfg
  | .addA_D => execAddA_D s cfg
  | .addB_imm8 imm8 => execAddB_imm8 imm8 s cfg
  | .addB_A => execAddB_A s cfg
  | .addB_C => execAddB_C s cfg
  | .addB_D => execAddB_D s cfg
  | .sbbA_imm8 imm8 => execSbbA_imm8 imm8 s cfg
  | .sbbA_B => execSbbA_B s cfg
  | .sbbA_C => execSbbA_C s cfg
  | .sbbA_D => execSbbA_D s cfg
  | .sbbB_imm8 imm8 => execSbbB_imm8 imm8 s cfg
  | .sbbB_A => execSbbB_A s cfg
  | .sbbB_C => execSbbB_C s cfg
  | .sbbB_D => execSbbB_D s cfg
  | .adcA_imm8 imm8 => execAdcA_imm8 imm8 s cfg
  | .adcA_B => execAdcA_B s cfg
  | .adcA_C => execAdcA_C s cfg
  | .adcA_D => execAdcA_D s cfg
  | .adcB_imm8 imm8 => execAdcB_imm8 imm8 s cfg
  | .adcB_A => execAdcB_A s cfg
  | .adcB_C => execAdcB_C s cfg
  | .adcB_D => execAdcB_D s cfg
  | .cmpA_imm8 imm8 => execCmpA_imm8 imm8 s cfg
  | .cmpA_B => execCmpA_B s cfg
  | .cmpA_C => execCmpA_C s cfg
  | .cmpA_D => execCmpA_D s cfg
  | .cmpB_imm8 imm8 => execCmpB_imm8 imm8 s cfg
  | .cmpB_A => execCmpB_A s cfg
  | .cmpB_C => execCmpB_C s cfg
  | .cmpB_D => execCmpB_D s cfg
  | .andA_imm8 imm8 => execAndA_imm8 imm8 s cfg
  | .andA_B => execAndA_B s cfg
  | .andA_C => execAndA_C s cfg
  | .andA_D => execAndA_D s cfg
  | .andB_imm8 imm8 => execAndB_imm8 imm8 s cfg
  | .andB_A => execAndB_A s cfg
  | .andB_C => execAndB_C s cfg
  | .andB_D => execAndB_D s cfg
  | .xorA_imm8 imm8 => execXorA_imm8 imm8 s cfg
  | .xorA_B => execXorA_B s cfg
  | .xorA_C => execXorA_C s cfg
  | .xorA_D => execXorA_D s cfg
  | .xorB_imm8 imm8 => execXorB_imm8 imm8 s cfg
  | .xorB_A => execXorB_A s cfg
  | .xorB_C => execXorB_C s cfg
  | .xorB_D => execXorB_D s cfg
  | .orA_imm8 imm8 => execOrA_imm8 imm8 s cfg
  | .orA_B => execOrA_B s cfg
  | .orA_C => execOrA_C s cfg
  | .orA_D => execOrA_D s cfg
  | .orB_imm8 imm8 => execOrB_imm8 imm8 s cfg
  | .orB_A => execOrB_A s cfg
  | .orB_C => execOrB_C s cfg
  | .orB_D => execOrB_D s cfg
  -- §2.2 item 6: 16-bit ADD, SUB
  | .addAB_imm16 imm16 => execAddAB_imm16 imm16 s cfg
  | .addAB_CD => execAddAB_CD s cfg
  | .addCD_imm16 imm16 => execAddCD_imm16 imm16 s cfg
  | .addCD_AB => execAddCD_AB s cfg
  | .addSP_imm16 imm16 => execAddSP_imm16 imm16 s cfg
  | .addSP_AB => execAddSP_AB s cfg
  | .addSP_CD => execAddSP_CD s cfg
  | .subAB_imm16 imm16 => execSubAB_imm16 imm16 s cfg
  | .subAB_CD => execSubAB_CD s cfg
  | .subCD_imm16 imm16 => execSubCD_imm16 imm16 s cfg
  | .subCD_AB => execSubCD_AB s cfg
  | .subSP_imm16 imm16 => execSubSP_imm16 imm16 s cfg
  | .subSP_AB => execSubSP_AB s cfg
  | .subSP_CD => execSubSP_CD s cfg
  -- §2.2 item 7: multiplication and division
  | .mulA_D => execMulA_D s cfg
  | .imulA_D => execImulA_D s cfg
  | .divAB_D => execDivAB_D s cfg
  | .idivAB_D => execIdivAB_D s cfg
  -- §2.2 item 8: EXP
  | .expA_B => execExpA_B s cfg
  -- §2.3 item 1: JR
  | .jr_rel8 rel8 => execJr_rel8 rel8 s cfg
  | .jrA => execJrA s cfg
  | .jrB => execJrB s cfg
  -- §2.3 item 2: branches on one flag
  | .js_rel8 rel8 => execJs_rel8 rel8 s cfg
  | .jp_rel8 rel8 => execJp_rel8 rel8 s cfg
  | .jo_rel8 rel8 => execJo_rel8 rel8 s cfg
  | .jc_rel8 rel8 => execJc_rel8 rel8 s cfg
  | .jz_rel8 rel8 => execJz_rel8 rel8 s cfg
  | .jns_rel8 rel8 => execJns_rel8 rel8 s cfg
  | .jnp_rel8 rel8 => execJnp_rel8 rel8 s cfg
  | .jno_rel8 rel8 => execJno_rel8 rel8 s cfg
  | .jnc_rel8 rel8 => execJnc_rel8 rel8 s cfg
  | .jnz_rel8 rel8 => execJnz_rel8 rel8 s cfg
  -- §2.3 item 3: branches on several flags
  | .jzc_rel8 rel8 => execJzc_rel8 rel8 s cfg
  | .jso_rel8 rel8 => execJso_rel8 rel8 s cfg
  | .jsonz_rel8 rel8 => execJsonz_rel8 rel8 s cfg
  | .jnzc_rel8 rel8 => execJnzc_rel8 rel8 s cfg
  | .jnso_rel8 rel8 => execJnso_rel8 rel8 s cfg
  | .jznso_rel8 rel8 => execJznso_rel8 rel8 s cfg
  -- §2.3 item 4: JEQZ, JNEQZ, LOOP
  | .jeqzA_rel8 rel8 => execJeqzA_rel8 rel8 s cfg
  | .jeqzB_rel8 rel8 => execJeqzB_rel8 rel8 s cfg
  | .jeqzC_rel8 rel8 => execJeqzC_rel8 rel8 s cfg
  | .jeqzD_rel8 rel8 => execJeqzD_rel8 rel8 s cfg
  | .jneqzA_rel8 rel8 => execJneqzA_rel8 rel8 s cfg
  | .jneqzB_rel8 rel8 => execJneqzB_rel8 rel8 s cfg
  | .jneqzC_rel8 rel8 => execJneqzC_rel8 rel8 s cfg
  | .jneqzD_rel8 rel8 => execJneqzD_rel8 rel8 s cfg
  | .loopA_rel8 rel8 => execLoopA_rel8 rel8 s cfg
  | .loopB_rel8 rel8 => execLoopB_rel8 rel8 s cfg
  | .loopC_rel8 rel8 => execLoopC_rel8 rel8 s cfg
  | .loopD_rel8 rel8 => execLoopD_rel8 rel8 s cfg
  -- §2.3 item 5: JMP
  | .jmp_imm16 imm16 => execJmp_imm16 imm16 s cfg
  | .jmpAB => execJmpAB s cfg
  | .jmpCD => execJmpCD s cfg
  -- §2.3 item 6: CALL
  | .call_imm16 imm16 => execCall_imm16 imm16 s cfg
  | .callAB => execCallAB s cfg
  | .callCD => execCallCD s cfg
  -- §2.3 item 7: RET
  | .ret => execRet s cfg
  -- §2.4 item 1: CLC, CMC, STC
  | .clc => execClc s cfg
  | .cmc => execCmc s cfg
  | .stc => execStc s cfg
  -- §2.4 item 2: HALT, NOP
  | .halt => execHalt s cfg
  | .nop => execNop s cfg

/-- `step` under a configuration. -/
def stepWith (cfg : Config) (s : State) : Res State := cycle cfg (execWith cfg) s

end Sys2Proof.Machine
end

