-- ==== Sys2Proof/Machine/Assembly.lean ====
section
/-! DEFINITION. What each instruction is as written, mnemonic and operands (spec/30_encoding.md R70, R73), and the sub-set each
mnemonic belongs to (spec/00_scope.md R2). -/

namespace Sys2Proof

/-- The sub-set a mnemonic belongs to (§2.1 to §2.4; R2). -/
def Mnemonic.family : Mnemonic → Family
  | .mov | .in | .out | .push | .pop => .dataMovement
  | .dec | .inc | .not | .neg | .shl | .shr | .rl | .rr | .sub | .add | .sbb | .adc | .cmp | .and | .xor | .or
  | .mul | .imul | .div | .idiv | .exp => .arithmeticLogic
  | .jr | .js | .jp | .jo | .jc | .jz | .jns | .jnp | .jno | .jnc | .jnz | .jzc | .jso | .jsonz | .jnzc | .jnso
  | .jznso | .jeqz | .jneqz | .loop | .jmp | .call | .ret => .branch
  | .clc | .cmc | .stc | .halt | .nop => .control

/-- Each instruction as written (R70, R73). -/
def Instr.asm : Instr → Asm
  | .movA_imm8 imm8 => ⟨.mov, [.byte (.loc (.reg .A)), .byte (.imm imm8)]⟩
  | .movA_B => ⟨.mov, [.byte (.loc (.reg .A)), .byte (.loc (.reg .B))]⟩
  | .movA_C => ⟨.mov, [.byte (.loc (.reg .A)), .byte (.loc (.reg .C))]⟩
  | .movA_D => ⟨.mov, [.byte (.loc (.reg .A)), .byte (.loc (.reg .D))]⟩
  | .movA_atAddr addr16 => ⟨.mov, [.byte (.loc (.reg .A)), .byte (.loc (.mem (.direct addr16)))]⟩
  | .movA_atAB => ⟨.mov, [.byte (.loc (.reg .A)), .byte (.loc (.mem (.implicit .AB)))]⟩
  | .movA_atCD => ⟨.mov, [.byte (.loc (.reg .A)), .byte (.loc (.mem (.implicit .CD)))]⟩
  | .movA_atABdisp disp16 => ⟨.mov, [.byte (.loc (.reg .A)), .byte (.loc (.mem (.indexed .AB disp16)))]⟩
  | .movA_atCDdisp disp16 => ⟨.mov, [.byte (.loc (.reg .A)), .byte (.loc (.mem (.indexed .CD disp16)))]⟩
  | .movB_imm8 imm8 => ⟨.mov, [.byte (.loc (.reg .B)), .byte (.imm imm8)]⟩
  | .movB_A => ⟨.mov, [.byte (.loc (.reg .B)), .byte (.loc (.reg .A))]⟩
  | .movB_C => ⟨.mov, [.byte (.loc (.reg .B)), .byte (.loc (.reg .C))]⟩
  | .movB_D => ⟨.mov, [.byte (.loc (.reg .B)), .byte (.loc (.reg .D))]⟩
  | .movB_atAddr addr16 => ⟨.mov, [.byte (.loc (.reg .B)), .byte (.loc (.mem (.direct addr16)))]⟩
  | .movB_atAB => ⟨.mov, [.byte (.loc (.reg .B)), .byte (.loc (.mem (.implicit .AB)))]⟩
  | .movB_atCD => ⟨.mov, [.byte (.loc (.reg .B)), .byte (.loc (.mem (.implicit .CD)))]⟩
  | .movB_atABdisp disp16 => ⟨.mov, [.byte (.loc (.reg .B)), .byte (.loc (.mem (.indexed .AB disp16)))]⟩
  | .movB_atCDdisp disp16 => ⟨.mov, [.byte (.loc (.reg .B)), .byte (.loc (.mem (.indexed .CD disp16)))]⟩
  | .movC_imm8 imm8 => ⟨.mov, [.byte (.loc (.reg .C)), .byte (.imm imm8)]⟩
  | .movC_A => ⟨.mov, [.byte (.loc (.reg .C)), .byte (.loc (.reg .A))]⟩
  | .movC_B => ⟨.mov, [.byte (.loc (.reg .C)), .byte (.loc (.reg .B))]⟩
  | .movC_D => ⟨.mov, [.byte (.loc (.reg .C)), .byte (.loc (.reg .D))]⟩
  | .movC_atAddr addr16 => ⟨.mov, [.byte (.loc (.reg .C)), .byte (.loc (.mem (.direct addr16)))]⟩
  | .movC_atAB => ⟨.mov, [.byte (.loc (.reg .C)), .byte (.loc (.mem (.implicit .AB)))]⟩
  | .movC_atCD => ⟨.mov, [.byte (.loc (.reg .C)), .byte (.loc (.mem (.implicit .CD)))]⟩
  | .movC_atABdisp disp16 => ⟨.mov, [.byte (.loc (.reg .C)), .byte (.loc (.mem (.indexed .AB disp16)))]⟩
  | .movC_atCDdisp disp16 => ⟨.mov, [.byte (.loc (.reg .C)), .byte (.loc (.mem (.indexed .CD disp16)))]⟩
  | .movD_imm8 imm8 => ⟨.mov, [.byte (.loc (.reg .D)), .byte (.imm imm8)]⟩
  | .movD_A => ⟨.mov, [.byte (.loc (.reg .D)), .byte (.loc (.reg .A))]⟩
  | .movD_B => ⟨.mov, [.byte (.loc (.reg .D)), .byte (.loc (.reg .B))]⟩
  | .movD_C => ⟨.mov, [.byte (.loc (.reg .D)), .byte (.loc (.reg .C))]⟩
  | .movD_atAddr addr16 => ⟨.mov, [.byte (.loc (.reg .D)), .byte (.loc (.mem (.direct addr16)))]⟩
  | .movD_atAB => ⟨.mov, [.byte (.loc (.reg .D)), .byte (.loc (.mem (.implicit .AB)))]⟩
  | .movD_atCD => ⟨.mov, [.byte (.loc (.reg .D)), .byte (.loc (.mem (.implicit .CD)))]⟩
  | .movD_atABdisp disp16 => ⟨.mov, [.byte (.loc (.reg .D)), .byte (.loc (.mem (.indexed .AB disp16)))]⟩
  | .movD_atCDdisp disp16 => ⟨.mov, [.byte (.loc (.reg .D)), .byte (.loc (.mem (.indexed .CD disp16)))]⟩
  | .movAtAddr_A addr16 => ⟨.mov, [.byte (.loc (.mem (.direct addr16))), .byte (.loc (.reg .A))]⟩
  | .movAtAddr_B addr16 => ⟨.mov, [.byte (.loc (.mem (.direct addr16))), .byte (.loc (.reg .B))]⟩
  | .movAtAddr_C addr16 => ⟨.mov, [.byte (.loc (.mem (.direct addr16))), .byte (.loc (.reg .C))]⟩
  | .movAtAddr_D addr16 => ⟨.mov, [.byte (.loc (.mem (.direct addr16))), .byte (.loc (.reg .D))]⟩
  | .movAtAB_C => ⟨.mov, [.byte (.loc (.mem (.implicit .AB))), .byte (.loc (.reg .C))]⟩
  | .movAtAB_D => ⟨.mov, [.byte (.loc (.mem (.implicit .AB))), .byte (.loc (.reg .D))]⟩
  | .movAtCD_A => ⟨.mov, [.byte (.loc (.mem (.implicit .CD))), .byte (.loc (.reg .A))]⟩
  | .movAtCD_B => ⟨.mov, [.byte (.loc (.mem (.implicit .CD))), .byte (.loc (.reg .B))]⟩
  | .movAtABdisp_C disp16 => ⟨.mov, [.byte (.loc (.mem (.indexed .AB disp16))), .byte (.loc (.reg .C))]⟩
  | .movAtABdisp_D disp16 => ⟨.mov, [.byte (.loc (.mem (.indexed .AB disp16))), .byte (.loc (.reg .D))]⟩
  | .movAtCDdisp_A disp16 => ⟨.mov, [.byte (.loc (.mem (.indexed .CD disp16))), .byte (.loc (.reg .A))]⟩
  | .movAtCDdisp_B disp16 => ⟨.mov, [.byte (.loc (.mem (.indexed .CD disp16))), .byte (.loc (.reg .B))]⟩
  | .movAtAddr_imm8 addr16 imm8 => ⟨.mov, [.byte (.loc (.mem (.direct addr16))), .byte (.imm imm8)]⟩
  | .movAB_imm16 imm16 => ⟨.mov, [.word (.loc (.pair .AB)), .word (.imm imm16)]⟩
  | .movAB_atAddr addr16 => ⟨.mov, [.word (.loc (.pair .AB)), .word (.loc (.mem (.direct addr16)))]⟩
  | .movAB_atAB => ⟨.mov, [.word (.loc (.pair .AB)), .word (.loc (.mem (.implicit .AB)))]⟩
  | .movAB_atCD => ⟨.mov, [.word (.loc (.pair .AB)), .word (.loc (.mem (.implicit .CD)))]⟩
  | .movAB_atABdisp disp16 => ⟨.mov, [.word (.loc (.pair .AB)), .word (.loc (.mem (.indexed .AB disp16)))]⟩
  | .movAB_atCDdisp disp16 => ⟨.mov, [.word (.loc (.pair .AB)), .word (.loc (.mem (.indexed .CD disp16)))]⟩
  | .movAB_CD => ⟨.mov, [.word (.loc (.pair .AB)), .word (.loc (.pair .CD))]⟩
  | .movAB_SP => ⟨.mov, [.word (.loc (.pair .AB)), .word (.loc (.sp))]⟩
  | .movCD_imm16 imm16 => ⟨.mov, [.word (.loc (.pair .CD)), .word (.imm imm16)]⟩
  | .movCD_atAddr addr16 => ⟨.mov, [.word (.loc (.pair .CD)), .word (.loc (.mem (.direct addr16)))]⟩
  | .movCD_atAB => ⟨.mov, [.word (.loc (.pair .CD)), .word (.loc (.mem (.implicit .AB)))]⟩
  | .movCD_atCD => ⟨.mov, [.word (.loc (.pair .CD)), .word (.loc (.mem (.implicit .CD)))]⟩
  | .movCD_atABdisp disp16 => ⟨.mov, [.word (.loc (.pair .CD)), .word (.loc (.mem (.indexed .AB disp16)))]⟩
  | .movCD_atCDdisp disp16 => ⟨.mov, [.word (.loc (.pair .CD)), .word (.loc (.mem (.indexed .CD disp16)))]⟩
  | .movCD_AB => ⟨.mov, [.word (.loc (.pair .CD)), .word (.loc (.pair .AB))]⟩
  | .movCD_SP => ⟨.mov, [.word (.loc (.pair .CD)), .word (.loc (.sp))]⟩
  | .movSP_imm16 imm16 => ⟨.mov, [.word (.loc (.sp)), .word (.imm imm16)]⟩
  | .movSP_atAddr addr16 => ⟨.mov, [.word (.loc (.sp)), .word (.loc (.mem (.direct addr16)))]⟩
  | .movSP_AB => ⟨.mov, [.word (.loc (.sp)), .word (.loc (.pair .AB))]⟩
  | .movSP_CD => ⟨.mov, [.word (.loc (.sp)), .word (.loc (.pair .CD))]⟩
  | .movAtAddr_AB addr16 => ⟨.mov, [.word (.loc (.mem (.direct addr16))), .word (.loc (.pair .AB))]⟩
  | .movAtAddr_CD addr16 => ⟨.mov, [.word (.loc (.mem (.direct addr16))), .word (.loc (.pair .CD))]⟩
  | .movAtAddr_SP addr16 => ⟨.mov, [.word (.loc (.mem (.direct addr16))), .word (.loc (.sp))]⟩
  | .movAtAB_CD => ⟨.mov, [.word (.loc (.mem (.implicit .AB))), .word (.loc (.pair .CD))]⟩
  | .movAtCD_AB => ⟨.mov, [.word (.loc (.mem (.implicit .CD))), .word (.loc (.pair .AB))]⟩
  | .movAtABdisp_CD disp16 => ⟨.mov, [.word (.loc (.mem (.indexed .AB disp16))), .word (.loc (.pair .CD))]⟩
  | .movAtCDdisp_AB disp16 => ⟨.mov, [.word (.loc (.mem (.indexed .CD disp16))), .word (.loc (.pair .AB))]⟩
  | .inA => ⟨.in, [.byte (.loc (.reg .A))]⟩
  | .inB => ⟨.in, [.byte (.loc (.reg .B))]⟩
  | .outA => ⟨.out, [.byte (.loc (.reg .A))]⟩
  | .outB => ⟨.out, [.byte (.loc (.reg .B))]⟩
  | .pushA => ⟨.push, [.byte (.loc (.reg .A))]⟩
  | .pushB => ⟨.push, [.byte (.loc (.reg .B))]⟩
  | .pushC => ⟨.push, [.byte (.loc (.reg .C))]⟩
  | .pushD => ⟨.push, [.byte (.loc (.reg .D))]⟩
  | .pushF => ⟨.push, [.byte (.loc (.flags))]⟩
  | .pushAtAddr addr16 => ⟨.push, [.byte (.loc (.mem (.direct addr16)))]⟩
  | .popA => ⟨.pop, [.byte (.loc (.reg .A))]⟩
  | .popB => ⟨.pop, [.byte (.loc (.reg .B))]⟩
  | .popC => ⟨.pop, [.byte (.loc (.reg .C))]⟩
  | .popD => ⟨.pop, [.byte (.loc (.reg .D))]⟩
  | .popF => ⟨.pop, [.byte (.loc (.flags))]⟩
  | .popAtAddr addr16 => ⟨.pop, [.byte (.loc (.mem (.direct addr16)))]⟩
  | .pushAB => ⟨.push, [.word (.loc (.pair .AB))]⟩
  | .pushCD => ⟨.push, [.word (.loc (.pair .CD))]⟩
  | .popAB => ⟨.pop, [.word (.loc (.pair .AB))]⟩
  | .popCD => ⟨.pop, [.word (.loc (.pair .CD))]⟩
  | .decA => ⟨.dec, [.byte (.loc (.reg .A))]⟩
  | .decB => ⟨.dec, [.byte (.loc (.reg .B))]⟩
  | .decC => ⟨.dec, [.byte (.loc (.reg .C))]⟩
  | .decD => ⟨.dec, [.byte (.loc (.reg .D))]⟩
  | .decAtAddr addr16 => ⟨.dec, [.byte (.loc (.mem (.direct addr16)))]⟩
  | .incA => ⟨.inc, [.byte (.loc (.reg .A))]⟩
  | .incB => ⟨.inc, [.byte (.loc (.reg .B))]⟩
  | .incC => ⟨.inc, [.byte (.loc (.reg .C))]⟩
  | .incD => ⟨.inc, [.byte (.loc (.reg .D))]⟩
  | .incAtAddr addr16 => ⟨.inc, [.byte (.loc (.mem (.direct addr16)))]⟩
  | .decAB => ⟨.dec, [.word (.loc (.pair .AB))]⟩
  | .decCD => ⟨.dec, [.word (.loc (.pair .CD))]⟩
  | .decSP => ⟨.dec, [.word (.loc (.sp))]⟩
  | .incAB => ⟨.inc, [.word (.loc (.pair .AB))]⟩
  | .incCD => ⟨.inc, [.word (.loc (.pair .CD))]⟩
  | .incSP => ⟨.inc, [.word (.loc (.sp))]⟩
  | .notA => ⟨.not, [.byte (.loc (.reg .A))]⟩
  | .notB => ⟨.not, [.byte (.loc (.reg .B))]⟩
  | .negA => ⟨.neg, [.byte (.loc (.reg .A))]⟩
  | .negB => ⟨.neg, [.byte (.loc (.reg .B))]⟩
  | .shlA => ⟨.shl, [.byte (.loc (.reg .A))]⟩
  | .shlB => ⟨.shl, [.byte (.loc (.reg .B))]⟩
  | .shrA => ⟨.shr, [.byte (.loc (.reg .A))]⟩
  | .shrB => ⟨.shr, [.byte (.loc (.reg .B))]⟩
  | .rlA => ⟨.rl, [.byte (.loc (.reg .A))]⟩
  | .rlB => ⟨.rl, [.byte (.loc (.reg .B))]⟩
  | .rrA => ⟨.rr, [.byte (.loc (.reg .A))]⟩
  | .rrB => ⟨.rr, [.byte (.loc (.reg .B))]⟩
  | .notAB => ⟨.not, [.word (.loc (.pair .AB))]⟩
  | .negAB => ⟨.neg, [.word (.loc (.pair .AB))]⟩
  | .shlAB => ⟨.shl, [.word (.loc (.pair .AB))]⟩
  | .shrAB => ⟨.shr, [.word (.loc (.pair .AB))]⟩
  | .rlAB => ⟨.rl, [.word (.loc (.pair .AB))]⟩
  | .rrAB => ⟨.rr, [.word (.loc (.pair .AB))]⟩
  | .subA_imm8 imm8 => ⟨.sub, [.byte (.loc (.reg .A)), .byte (.imm imm8)]⟩
  | .subA_B => ⟨.sub, [.byte (.loc (.reg .A)), .byte (.loc (.reg .B))]⟩
  | .subA_C => ⟨.sub, [.byte (.loc (.reg .A)), .byte (.loc (.reg .C))]⟩
  | .subA_D => ⟨.sub, [.byte (.loc (.reg .A)), .byte (.loc (.reg .D))]⟩
  | .subB_imm8 imm8 => ⟨.sub, [.byte (.loc (.reg .B)), .byte (.imm imm8)]⟩
  | .subB_A => ⟨.sub, [.byte (.loc (.reg .B)), .byte (.loc (.reg .A))]⟩
  | .subB_C => ⟨.sub, [.byte (.loc (.reg .B)), .byte (.loc (.reg .C))]⟩
  | .subB_D => ⟨.sub, [.byte (.loc (.reg .B)), .byte (.loc (.reg .D))]⟩
  | .addA_imm8 imm8 => ⟨.add, [.byte (.loc (.reg .A)), .byte (.imm imm8)]⟩
  | .addA_B => ⟨.add, [.byte (.loc (.reg .A)), .byte (.loc (.reg .B))]⟩
  | .addA_C => ⟨.add, [.byte (.loc (.reg .A)), .byte (.loc (.reg .C))]⟩
  | .addA_D => ⟨.add, [.byte (.loc (.reg .A)), .byte (.loc (.reg .D))]⟩
  | .addB_imm8 imm8 => ⟨.add, [.byte (.loc (.reg .B)), .byte (.imm imm8)]⟩
  | .addB_A => ⟨.add, [.byte (.loc (.reg .B)), .byte (.loc (.reg .A))]⟩
  | .addB_C => ⟨.add, [.byte (.loc (.reg .B)), .byte (.loc (.reg .C))]⟩
  | .addB_D => ⟨.add, [.byte (.loc (.reg .B)), .byte (.loc (.reg .D))]⟩
  | .sbbA_imm8 imm8 => ⟨.sbb, [.byte (.loc (.reg .A)), .byte (.imm imm8)]⟩
  | .sbbA_B => ⟨.sbb, [.byte (.loc (.reg .A)), .byte (.loc (.reg .B))]⟩
  | .sbbA_C => ⟨.sbb, [.byte (.loc (.reg .A)), .byte (.loc (.reg .C))]⟩
  | .sbbA_D => ⟨.sbb, [.byte (.loc (.reg .A)), .byte (.loc (.reg .D))]⟩
  | .sbbB_imm8 imm8 => ⟨.sbb, [.byte (.loc (.reg .B)), .byte (.imm imm8)]⟩
  | .sbbB_A => ⟨.sbb, [.byte (.loc (.reg .B)), .byte (.loc (.reg .A))]⟩
  | .sbbB_C => ⟨.sbb, [.byte (.loc (.reg .B)), .byte (.loc (.reg .C))]⟩
  | .sbbB_D => ⟨.sbb, [.byte (.loc (.reg .B)), .byte (.loc (.reg .D))]⟩
  | .adcA_imm8 imm8 => ⟨.adc, [.byte (.loc (.reg .A)), .byte (.imm imm8)]⟩
  | .adcA_B => ⟨.adc, [.byte (.loc (.reg .A)), .byte (.loc (.reg .B))]⟩
  | .adcA_C => ⟨.adc, [.byte (.loc (.reg .A)), .byte (.loc (.reg .C))]⟩
  | .adcA_D => ⟨.adc, [.byte (.loc (.reg .A)), .byte (.loc (.reg .D))]⟩
  | .adcB_imm8 imm8 => ⟨.adc, [.byte (.loc (.reg .B)), .byte (.imm imm8)]⟩
  | .adcB_A => ⟨.adc, [.byte (.loc (.reg .B)), .byte (.loc (.reg .A))]⟩
  | .adcB_C => ⟨.adc, [.byte (.loc (.reg .B)), .byte (.loc (.reg .C))]⟩
  | .adcB_D => ⟨.adc, [.byte (.loc (.reg .B)), .byte (.loc (.reg .D))]⟩
  | .cmpA_imm8 imm8 => ⟨.cmp, [.byte (.loc (.reg .A)), .byte (.imm imm8)]⟩
  | .cmpA_B => ⟨.cmp, [.byte (.loc (.reg .A)), .byte (.loc (.reg .B))]⟩
  | .cmpA_C => ⟨.cmp, [.byte (.loc (.reg .A)), .byte (.loc (.reg .C))]⟩
  | .cmpA_D => ⟨.cmp, [.byte (.loc (.reg .A)), .byte (.loc (.reg .D))]⟩
  | .cmpB_imm8 imm8 => ⟨.cmp, [.byte (.loc (.reg .B)), .byte (.imm imm8)]⟩
  | .cmpB_A => ⟨.cmp, [.byte (.loc (.reg .B)), .byte (.loc (.reg .A))]⟩
  | .cmpB_C => ⟨.cmp, [.byte (.loc (.reg .B)), .byte (.loc (.reg .C))]⟩
  | .cmpB_D => ⟨.cmp, [.byte (.loc (.reg .B)), .byte (.loc (.reg .D))]⟩
  | .andA_imm8 imm8 => ⟨.and, [.byte (.loc (.reg .A)), .byte (.imm imm8)]⟩
  | .andA_B => ⟨.and, [.byte (.loc (.reg .A)), .byte (.loc (.reg .B))]⟩
  | .andA_C => ⟨.and, [.byte (.loc (.reg .A)), .byte (.loc (.reg .C))]⟩
  | .andA_D => ⟨.and, [.byte (.loc (.reg .A)), .byte (.loc (.reg .D))]⟩
  | .andB_imm8 imm8 => ⟨.and, [.byte (.loc (.reg .B)), .byte (.imm imm8)]⟩
  | .andB_A => ⟨.and, [.byte (.loc (.reg .B)), .byte (.loc (.reg .A))]⟩
  | .andB_C => ⟨.and, [.byte (.loc (.reg .B)), .byte (.loc (.reg .C))]⟩
  | .andB_D => ⟨.and, [.byte (.loc (.reg .B)), .byte (.loc (.reg .D))]⟩
  | .xorA_imm8 imm8 => ⟨.xor, [.byte (.loc (.reg .A)), .byte (.imm imm8)]⟩
  | .xorA_B => ⟨.xor, [.byte (.loc (.reg .A)), .byte (.loc (.reg .B))]⟩
  | .xorA_C => ⟨.xor, [.byte (.loc (.reg .A)), .byte (.loc (.reg .C))]⟩
  | .xorA_D => ⟨.xor, [.byte (.loc (.reg .A)), .byte (.loc (.reg .D))]⟩
  | .xorB_imm8 imm8 => ⟨.xor, [.byte (.loc (.reg .B)), .byte (.imm imm8)]⟩
  | .xorB_A => ⟨.xor, [.byte (.loc (.reg .B)), .byte (.loc (.reg .A))]⟩
  | .xorB_C => ⟨.xor, [.byte (.loc (.reg .B)), .byte (.loc (.reg .C))]⟩
  | .xorB_D => ⟨.xor, [.byte (.loc (.reg .B)), .byte (.loc (.reg .D))]⟩
  | .orA_imm8 imm8 => ⟨.or, [.byte (.loc (.reg .A)), .byte (.imm imm8)]⟩
  | .orA_B => ⟨.or, [.byte (.loc (.reg .A)), .byte (.loc (.reg .B))]⟩
  | .orA_C => ⟨.or, [.byte (.loc (.reg .A)), .byte (.loc (.reg .C))]⟩
  | .orA_D => ⟨.or, [.byte (.loc (.reg .A)), .byte (.loc (.reg .D))]⟩
  | .orB_imm8 imm8 => ⟨.or, [.byte (.loc (.reg .B)), .byte (.imm imm8)]⟩
  | .orB_A => ⟨.or, [.byte (.loc (.reg .B)), .byte (.loc (.reg .A))]⟩
  | .orB_C => ⟨.or, [.byte (.loc (.reg .B)), .byte (.loc (.reg .C))]⟩
  | .orB_D => ⟨.or, [.byte (.loc (.reg .B)), .byte (.loc (.reg .D))]⟩
  | .addAB_imm16 imm16 => ⟨.add, [.word (.loc (.pair .AB)), .word (.imm imm16)]⟩
  | .addAB_CD => ⟨.add, [.word (.loc (.pair .AB)), .word (.loc (.pair .CD))]⟩
  | .addCD_imm16 imm16 => ⟨.add, [.word (.loc (.pair .CD)), .word (.imm imm16)]⟩
  | .addCD_AB => ⟨.add, [.word (.loc (.pair .CD)), .word (.loc (.pair .AB))]⟩
  | .addSP_imm16 imm16 => ⟨.add, [.word (.loc (.sp)), .word (.imm imm16)]⟩
  | .addSP_AB => ⟨.add, [.word (.loc (.sp)), .word (.loc (.pair .AB))]⟩
  | .addSP_CD => ⟨.add, [.word (.loc (.sp)), .word (.loc (.pair .CD))]⟩
  | .subAB_imm16 imm16 => ⟨.sub, [.word (.loc (.pair .AB)), .word (.imm imm16)]⟩
  | .subAB_CD => ⟨.sub, [.word (.loc (.pair .AB)), .word (.loc (.pair .CD))]⟩
  | .subCD_imm16 imm16 => ⟨.sub, [.word (.loc (.pair .CD)), .word (.imm imm16)]⟩
  | .subCD_AB => ⟨.sub, [.word (.loc (.pair .CD)), .word (.loc (.pair .AB))]⟩
  | .subSP_imm16 imm16 => ⟨.sub, [.word (.loc (.sp)), .word (.imm imm16)]⟩
  | .subSP_AB => ⟨.sub, [.word (.loc (.sp)), .word (.loc (.pair .AB))]⟩
  | .subSP_CD => ⟨.sub, [.word (.loc (.sp)), .word (.loc (.pair .CD))]⟩
  | .mulA_D => ⟨.mul, [.byte (.loc (.reg .A)), .byte (.loc (.reg .D))]⟩
  | .imulA_D => ⟨.imul, [.byte (.loc (.reg .A)), .byte (.loc (.reg .D))]⟩
  | .divAB_D => ⟨.div, [.word (.loc (.pair .AB)), .byte (.loc (.reg .D))]⟩
  | .idivAB_D => ⟨.idiv, [.word (.loc (.pair .AB)), .byte (.loc (.reg .D))]⟩
  | .expA_B => ⟨.exp, [.byte (.loc (.reg .A)), .byte (.loc (.reg .B))]⟩
  | .jr_rel8 rel8 => ⟨.jr, [.rel8 rel8]⟩
  | .jrA => ⟨.jr, [.byte (.loc (.reg .A))]⟩
  | .jrB => ⟨.jr, [.byte (.loc (.reg .B))]⟩
  | .js_rel8 rel8 => ⟨.js, [.rel8 rel8]⟩
  | .jp_rel8 rel8 => ⟨.jp, [.rel8 rel8]⟩
  | .jo_rel8 rel8 => ⟨.jo, [.rel8 rel8]⟩
  | .jc_rel8 rel8 => ⟨.jc, [.rel8 rel8]⟩
  | .jz_rel8 rel8 => ⟨.jz, [.rel8 rel8]⟩
  | .jns_rel8 rel8 => ⟨.jns, [.rel8 rel8]⟩
  | .jnp_rel8 rel8 => ⟨.jnp, [.rel8 rel8]⟩
  | .jno_rel8 rel8 => ⟨.jno, [.rel8 rel8]⟩
  | .jnc_rel8 rel8 => ⟨.jnc, [.rel8 rel8]⟩
  | .jnz_rel8 rel8 => ⟨.jnz, [.rel8 rel8]⟩
  | .jzc_rel8 rel8 => ⟨.jzc, [.rel8 rel8]⟩
  | .jso_rel8 rel8 => ⟨.jso, [.rel8 rel8]⟩
  | .jsonz_rel8 rel8 => ⟨.jsonz, [.rel8 rel8]⟩
  | .jnzc_rel8 rel8 => ⟨.jnzc, [.rel8 rel8]⟩
  | .jnso_rel8 rel8 => ⟨.jnso, [.rel8 rel8]⟩
  | .jznso_rel8 rel8 => ⟨.jznso, [.rel8 rel8]⟩
  | .jeqzA_rel8 rel8 => ⟨.jeqz, [.byte (.loc (.reg .A)), .rel8 rel8]⟩
  | .jeqzB_rel8 rel8 => ⟨.jeqz, [.byte (.loc (.reg .B)), .rel8 rel8]⟩
  | .jeqzC_rel8 rel8 => ⟨.jeqz, [.byte (.loc (.reg .C)), .rel8 rel8]⟩
  | .jeqzD_rel8 rel8 => ⟨.jeqz, [.byte (.loc (.reg .D)), .rel8 rel8]⟩
  | .jneqzA_rel8 rel8 => ⟨.jneqz, [.byte (.loc (.reg .A)), .rel8 rel8]⟩
  | .jneqzB_rel8 rel8 => ⟨.jneqz, [.byte (.loc (.reg .B)), .rel8 rel8]⟩
  | .jneqzC_rel8 rel8 => ⟨.jneqz, [.byte (.loc (.reg .C)), .rel8 rel8]⟩
  | .jneqzD_rel8 rel8 => ⟨.jneqz, [.byte (.loc (.reg .D)), .rel8 rel8]⟩
  | .loopA_rel8 rel8 => ⟨.loop, [.byte (.loc (.reg .A)), .rel8 rel8]⟩
  | .loopB_rel8 rel8 => ⟨.loop, [.byte (.loc (.reg .B)), .rel8 rel8]⟩
  | .loopC_rel8 rel8 => ⟨.loop, [.byte (.loc (.reg .C)), .rel8 rel8]⟩
  | .loopD_rel8 rel8 => ⟨.loop, [.byte (.loc (.reg .D)), .rel8 rel8]⟩
  | .jmp_imm16 imm16 => ⟨.jmp, [.word (.imm imm16)]⟩
  | .jmpAB => ⟨.jmp, [.word (.loc (.pair .AB))]⟩
  | .jmpCD => ⟨.jmp, [.word (.loc (.pair .CD))]⟩
  | .call_imm16 imm16 => ⟨.call, [.word (.imm imm16)]⟩
  | .callAB => ⟨.call, [.word (.loc (.pair .AB))]⟩
  | .callCD => ⟨.call, [.word (.loc (.pair .CD))]⟩
  | .ret => ⟨.ret, []⟩
  | .clc => ⟨.clc, []⟩
  | .cmc => ⟨.cmc, []⟩
  | .stc => ⟨.stc, []⟩
  | .halt => ⟨.halt, []⟩
  | .nop => ⟨.nop, []⟩

end Sys2Proof
end

