-- ==== Sys2Proof/WellFormed.lean ====
section
/-! DEFINITION. Which mnemonics take which operands: the instructions as written that exist, and the combinations the spec says
cannot be written (spec/30_encoding.md R65, and the family rules named below). -/

namespace Sys2Proof

/-- The registers of a pair (R11). -/
def Pair.holds (p : Pair) (r : Reg) : Bool :=
  match p, r with
  | .AB, .A | .AB, .B | .CD, .C | .CD, .D => true
  | _, _ => false

/-- Whether an addressing form uses a register of the machine to make the address (R66). -/
def AddrForm.uses (m : AddrForm) (r : Reg) : Bool :=
  match m with
  | .direct _ => false
  | .implicit p | .indexed p _ => p.holds r

/-- Whether an addressing form uses a pair to make the address (R66). -/
def AddrForm.usesPair (m : AddrForm) (p : Pair) : Bool :=
  match m with
  | .direct _ => false
  | .implicit q | .indexed q _ => q == p

/-- The operands of `MOV`: loads (R101), stores (R102), 16-bit moves (R161). -/
def movOperands : List Operand → Bool
  | [.byte (.loc (.reg _)), .byte (.imm _)] => true
  | [.byte (.loc (.reg r)), .byte (.loc (.reg q))] => r != q
  | [.byte (.loc (.reg _)), .byte (.loc (.mem _))] => true
  | [.byte (.loc (.mem m)), .byte (.loc (.reg r))] => !m.uses r
  | [.byte (.loc (.mem (.direct _))), .byte (.imm _)] => true
  | [.word (.loc (.pair _)), .word (.imm _)] => true
  | [.word (.loc (.pair _)), .word (.loc (.mem _))] => true
  | [.word (.loc (.pair p)), .word (.loc (.pair q))] => p != q
  | [.word (.loc (.pair _)), .word (.loc .sp)] => true
  | [.word (.loc .sp), .word (.imm _)] => true
  | [.word (.loc .sp), .word (.loc (.mem (.direct _)))] => true
  | [.word (.loc .sp), .word (.loc (.pair _))] => true
  | [.word (.loc (.mem m)), .word (.loc (.pair p))] => !m.usesPair p
  | [.word (.loc (.mem (.direct _))), .word (.loc .sp)] => true
  | _ => false

/-- `A` or `B` (R10). -/
def Reg.isAorB (r : Reg) : Bool := r == .A || r == .B

/-- The operands of `PUSH` and `POP` (R191, R192). -/
def stackOperands : List Operand → Bool
  | [.byte (.loc (.reg _))] | [.byte (.loc .flags)] | [.byte (.loc (.mem (.direct _)))] | [.word (.loc (.pair _))] => true
  | _ => false

/-- The operands of `INC` and `DEC` (R221). -/
def stepOperands : List Operand → Bool
  | [.byte (.loc (.reg _))] | [.byte (.loc (.mem (.direct _)))] | [.word (.loc (.pair _))] | [.word (.loc .sp)] => true
  | _ => false

/-- The operands of `NOT`, `NEG`, `SHL`, `SHR`, `RL`, `RR` (R222). -/
def unaryOperands : List Operand → Bool
  | [.byte (.loc (.reg r))] => r.isAorB
  | [.word (.loc (.pair .AB))] => true
  | _ => false

/-- The operands of the binary 8-bit operations (R270). -/
def binary8Operands : List Operand → Bool
  | [.byte (.loc (.reg r)), .byte (.imm _)] => r.isAorB
  | [.byte (.loc (.reg r)), .byte (.loc (.reg q))] => r.isAorB && r != q
  | _ => false

/-- The operands of the 16-bit `ADD` and `SUB` (R340). -/
def binary16Operands : List Operand → Bool
  | [.word (.loc (.pair _)), .word (.imm _)] | [.word (.loc .sp), .word (.imm _)] | [.word (.loc .sp), .word (.loc (.pair _))] => true
  | [.word (.loc (.pair p)), .word (.loc (.pair q))] => p != q
  | _ => false

/-- The operands of `JMP` and `CALL` (R372). -/
def targetOperands : List Operand → Bool
  | [.word (.imm _)] | [.word (.loc (.pair _))] => true
  | _ => false

/-- Whether a mnemonic takes these operands: the instructions as written that have an opcode (R65, R70). -/
def Asm.wellFormed (t : Asm) : Bool :=
  match t.mnemonic with
  | .mov => movOperands t.operands
  | .in | .out =>
    match t.operands with
    | [.byte (.loc (.reg r))] => r.isAorB
    | _ => false
  | .push | .pop => stackOperands t.operands
  | .inc | .dec => stepOperands t.operands
  | .not | .neg | .shl | .shr | .rl | .rr => unaryOperands t.operands
  | .sbb | .adc | .cmp | .and | .xor | .or => binary8Operands t.operands
  | .add | .sub => binary8Operands t.operands || binary16Operands t.operands
  | .mul | .imul => t.operands == [.byte (.loc (.reg .A)), .byte (.loc (.reg .D))]
  | .div | .idiv => t.operands == [.word (.loc (.pair .AB)), .byte (.loc (.reg .D))]
  | .exp => t.operands == [.byte (.loc (.reg .A)), .byte (.loc (.reg .B))]
  | .jr =>
    match t.operands with
    | [.rel8 _] => true
    | [.byte (.loc (.reg r))] => r.isAorB
    | _ => false
  | .js | .jp | .jo | .jc | .jz | .jns | .jnp | .jno | .jnc | .jnz | .jzc | .jso | .jsonz | .jnzc | .jnso | .jznso =>
    match t.operands with
    | [.rel8 _] => true
    | _ => false
  | .jeqz | .jneqz | .loop =>
    match t.operands with
    | [.byte (.loc (.reg _)), .rel8 _] => true
    | _ => false
  | .jmp | .call => targetOperands t.operands
  | .ret | .clc | .cmc | .stc | .halt | .nop => t.operands == []

/-- Whether an instruction keeps the rules on operands. Its operand bytes have no reserved value (R71), so the check is on what
it is as written. -/
def Instr.wellFormed (i : Instr) : Bool := i.asm.wellFormed

/-- Whether the displacement of an operand, if it has one, is one that the instruction bytes give (`DISP_WIDTH`). -/
def Operand.encodable (cfg : Config) : Operand → Bool
  | .byte (.loc (.mem (.indexed _ disp16))) | .word (.loc (.mem (.indexed _ disp16))) =>
    displacementOf cfg (displacementBytes cfg disp16) == some disp16
  | _ => true

/-- Whether a configuration can encode an instruction: every one, where displacements have 16 bits. -/
def Instr.encodable (cfg : Config) (i : Instr) : Bool := i.asm.operands.all (Operand.encodable cfg)

end Sys2Proof
end

