-- ==== Sys2Proof/Safety.lean ====
section
/-! DEFINITION. What counts as a good state and as an admissible outcome, in the terms the statements use. -/

namespace Sys2Proof.Machine

/-- The invariant of the model: memory is in its canonical form, so that equal memories are equal data. -/
abbrev State.Inv (s : State) : Prop := s.mem.wf

/-- The states a run from some reset state and some loaded image can be in: reset with any image and any supplied input, and
what a step leads to. -/
inductive Reachable : State → Prop
  | start (r : ResetState) (image : Memory) (input : List Byte) (h : image.wf) :
      Reachable { State.resetWith { Config.spec with resetState := r } with mem := image, input := input }
  | step (s t : State) (hs : Reachable s) (h : Sys2Proof.Machine.step s = .next t) : Reachable t

/-- Every memory position holds a value: no read can meet an unspecified position (R35). -/
def State.AllSpecified (s : State) : Prop := ∀ a : Word, (s.peek a).isSome = true

/-- `S`, `Z` and `P` tell of a result what R20 says: its sign, whether it is zero, whether the number of one bits among its low
eight is even. -/
def Flags.Show {w : Nat} (f : Flags) (res : BitVec w) : Prop :=
  f.sign = decide (res.toInt < 0) ∧ f.zero = decide (res.toNat = 0) ∧
    f.parity = !(res.getLsbD 0 ^^ res.getLsbD 1 ^^ res.getLsbD 2 ^^ res.getLsbD 3 ^^ res.getLsbD 4 ^^ res.getLsbD 5 ^^
      res.getLsbD 6 ^^ res.getLsbD 7)

/-- A signed number that `w` bits cannot hold. -/
def OutOfRange (w : Nat) (n : Int) : Prop := n < -2 ^ (w - 1) ∨ 2 ^ (w - 1) ≤ n

/-- The memory positions an instruction stores to (R43), computed as its meaning computes them. -/
def storesTo (i : Instr) (s : State) : List Word :=
  match i.asm.mnemonic, i.asm.operands with
  | .mov, [.byte (.loc (.mem m)), _] => [effectiveAddress .spec m s]
  | .mov, [.word (.loc (.mem m)), _] => [effectiveAddress .spec m s, effectiveAddress .spec m s + 1]
  | .push, [.byte _] => [(pushSlot .spec 1 s.sp).1]
  | .push, [.word _] => [(pushSlot .spec 2 s.sp).1, (pushSlot .spec 2 s.sp).1 + 1]
  | .pop, [.byte (.loc (.mem m))] | .inc, [.byte (.loc (.mem m))] | .dec, [.byte (.loc (.mem m))] => [effectiveAddress .spec m s]
  | .call, _ => [(pushSlot .spec 2 s.sp).1, (pushSlot .spec 2 s.sp).1 + 1]
  | _, _ => []

/-- Whether an instruction writes `SP` (the list of R12). -/
def writesSp (i : Instr) : Bool :=
  match i.asm.mnemonic, i.asm.operands with
  | .push, _ | .pop, _ | .call, _ | .ret, _ => true
  | .mov, .word (.loc .sp) :: _ | .inc, .word (.loc .sp) :: _ | .dec, .word (.loc .sp) :: _ => true
  | .add, .word (.loc .sp) :: _ | .sub, .word (.loc .sp) :: _ => true
  | _, _ => false

/-- An operand without the value of its instruction bytes: what the opcode alone selects (R60, R65). -/
def shapeOf : Operand → Operand
  | .byte (.imm _) => .byte (.imm 0)
  | .word (.imm _) => .word (.imm 0)
  | .rel8 _ => .rel8 0
  | .byte (.loc (.mem (.direct _))) => .byte (.loc (.mem (.direct 0)))
  | .byte (.loc (.mem (.indexed p _))) => .byte (.loc (.mem (.indexed p 0)))
  | .word (.loc (.mem (.direct _))) => .word (.loc (.mem (.direct 0)))
  | .word (.loc (.mem (.indexed p _))) => .word (.loc (.mem (.indexed p 0)))
  | o => o

end Sys2Proof.Machine
end

