-- ==== Sys2Proof/Certificates/Slice0/Obligations.lean ====
section
/-! DEFINITION. The statements for the provers. Where a list pairs instructions with registers, addressing forms, operands or lengths, the
statement holds of each instruction of the list; every instruction of the table stands in one whose conclusion is that it completes.
`exec`, `step`, `decode` and `encode` are the machine under `Config.spec`, so a statement about them rests on the spec's value of every
parameter it uses. Where `IP` moves by an instruction's length, the length is the spec's decision D2. -/

open Sys2Proof Sys2Proof.Machine

/-- For every configuration (R3, R70: D1 leaves the opcode numbers open) and whatever bytes follow, decoding the encoding of an
instruction gives the instruction. The operands' layout is the spec's decision D2, D3. -/
def Obligations.DecodeEncodeRoundTrip : Prop :=
  (∀ (cfg : Config) (i : Instr) (rest : List Byte), i.encodable cfg = true → decodeWith cfg (encodeWith cfg i ++ rest) = .ok i) ∧
    ∀ (cfg : Config) (i : Instr), cfg.dispWidth = .bits16 → i.encodable cfg = true

/-- No four bytes are refused, and the instruction they give encodes to the bytes it was read from (R60, R71, R75); the layout is
the spec's decision D2, D3. -/
def Obligations.EveryFourBytesAreOneInstruction : Prop :=
  ∀ (cfg : Config) (b0 b1 b2 b3 : Byte), ∃ (i : Instr) (n : Nat), decodeWith cfg [b0, b1, b2, b3] = .ok i ∧
    lengthOfOpcode cfg b0 = some n ∧ encodeWith cfg i = [b0, b1, b2, b3].take n

/-- The register operands, the addressing form and the presence of an immediate are all selected by the opcode byte (R60). That
the opcode map is a bijection R60 marks as derived, the spec's own inference from 256 instructions, 8-bit codes and one code
each. -/
def Obligations.OpcodeSelectsTheOperands : Prop :=
  ∀ cfg : Config,
    (∀ i j : Instr, (encodeWith cfg i).head? = (encodeWith cfg j).head? ↔
      i.asm.mnemonic = j.asm.mnemonic ∧ i.asm.operands.map shapeOf = j.asm.operands.map shapeOf) ∧
    ∀ b : Byte, ∃ i : Instr, (encodeWith cfg i).head? = some b

/-- The counts of R62, and the length it takes from the opcode; the formats are the spec's decision D2. -/
def Obligations.InstructionLengths : Prop :=
  (∀ p ∈ [(1, 159), (2, 49), (3, 47), (4, 1)],
      ((List.range 256).filter fun n => lengthOfOpcode .spec (BitVec.ofNat 8 n) == some p.1).length = p.2) ∧
    ∀ i : Instr, (encode i).head?.bind (lengthOfOpcode .spec) = some (encode i).length

/-- A few words of R70's provisional numbering (the spec's decision D1) with their operand bytes high byte first (D3). -/
def Obligations.SampleWordsDecode : Prop :=
  decode [0x30, 0x20, 0x40, 0x99] = .ok (.movAtAddr_imm8 0x2040 0x99) ∧
    decode [0x4A, 0xFF, 0xFE] = .ok (.movAtABdisp_CD 0xFFFE) ∧
    decode [0x5B, 0x12, 0x34] = .ok (.popAtAddr 0x1234) ∧
    decode [0x81] = .ok .rrAB ∧
    decode [0x9A, 0x80] = .ok (.adcA_imm8 0x80) ∧
    decode [0xCD, 0x00, 0x02] = .ok (.subSP_imm16 0x0002) ∧
    decode [0xD3] = .ok .idivAB_D ∧
    decode [0xE7, 0xFE] = .ok (.jznso_rel8 0xFE) ∧
    decode [0xFD] = .ok .stc

/-- The rules on operands (R65, R101, R102, R161, R190 to R192, R221, R222, R270, R340, R372, R420) admit what has an opcode and
nothing else; the five addressing forms are the spec's decision D4. -/
def Obligations.OperandListsAreExact : Prop :=
  (∀ t : Asm, t.wellFormed = true ↔ ∃ i : Instr, i.asm = t) ∧ ∀ i j : Instr, i.asm = j.asm → i = j

/-- The cycle of R14, R15, R75 (the spec's reading, D2): only the bytes of the instruction are read. Every term of `Instr` is well
formed. -/
def Obligations.StepRunsDecodedInstruction : Prop :=
  ∀ (s : State) (bs : List Byte) (i : Instr), s.halted = false → decode bs = .ok i →
    (∀ k < i.length, s.peek (s.ip + BitVec.ofNat 16 k) = bs[k]?) → step s = exec i s

/-- R33: `HALT` sets `halted`, no described event clears it, and while it is set the processor executes no step. -/
def Obligations.HaltedMachineStaysHalted : Prop :=
  (∀ s t : State, step s = .next t → s.halted = false) ∧
    (∀ (i : Instr) (s t : State), exec i s = .next t → t.halted = (if i = .halt then true else s.halted)) ∧
    ∀ s : State, ∃ t, exec .halt s = .next t ∧ t.halted = true

/-- The invariant of the model, over every state (its form is the model's choice, notes/assumptions/5.md; memory itself is R31). -/
def Obligations.StepKeepsInvariant : Prop :=
  ∀ s t : State, s.Inv → step s = .next t → t.Inv

/-- The invariant (its form is the model's choice, notes/assumptions/5.md) holds after reset (R520), with any `RESET_STATE` and
any loaded image (R521); the values a host does not supply are the model's choice (notes/assumptions/2.md) and nothing here
rests on them. -/
def Obligations.ResetMeetsInvariant : Prop :=
  State.reset.Inv ∧ ∀ (cfg : Config) (image : Memory), (Memory.wf cfg.resetState.mem → (State.resetWith cfg).Inv) ∧
    (image.wf → ({ State.resetWith cfg with mem := image }).Inv)

/-- `IP`, `halted` and the output trace are the values R34 gives (the spec's decision D14). The model's choice are the clause that
no input is supplied (notes/assumptions/4.md: R34 says only that the environment supplies the stream) and the clauses that no
position holds a value before a load (notes/assumptions/5.md and 7.md). -/
def Obligations.ResetValues : Prop :=
  State.reset = State.resetWith Config.spec ∧ State.reset.ip = 0x0000 ∧ (∀ x : Word, State.reset.peek x = none) ∧
    ∀ cfg : Config, (State.resetWith cfg).ip = cfg.resetPc ∧ (State.resetWith cfg).halted = false ∧
      (State.resetWith cfg).output = [] ∧ (State.resetWith cfg).input = [] ∧
      ∀ x : Word, (State.resetWith cfg).peek x = Memory.get? cfg.resetState.mem x.toNat

/-- From the list of R500 (the spec's decision D16, D10). The model's choice: the name of the stuck state of R33
(notes/assumptions/6.md); that `UnspecifiedRead` arises at memory positions alone, never at a register or a flag, which R35
and R502 list too (notes/assumptions/2.md), and is a stop (notes/assumptions/5.md); that no refusal is reached
(notes/assumptions/8.md). -/
def Obligations.StopsAreOnlyTheListedOnes : Prop :=
  ∀ s : State, (∀ q, step s ≠ .refused q) ∧ ∀ f, step s = .fault f →
    (f = .halted ∧ s.halted = true) ∨ (∃ x, f = .unspecifiedRead x ∧ s.peek x = none) ∨
      ∃ i cause, f = .divideError cause ∧ fetch .spec s = .next i ∧ (i = .divAB_D ∨ i = .idivAB_D) ∧
        (cause = .zero ↔ s.d = 0)

/-- Nothing but an unspecified position or a division stops a running machine. It is the model's choice that specified memory
suffices: no register or flag ever raises `UnspecifiedRead` (notes/assumptions/2.md and 3.md; R35 and R502 list them too), and
a read of a position without a value is a stop (notes/assumptions/5.md). The rest is R500 (the spec's decision D16). -/
def Obligations.SpecifiedMemoryRunsOn : Prop :=
  (∀ s : State, s.halted = false → s.AllSpecified →
      (∃ t, step s = .next t ∧ t.AllSpecified) ∨ ∃ cause, step s = .fault (.divideError cause)) ∧
    ∀ (s t : State) (x : Word), step s = .next t → (s.peek x).isSome = true → (t.peek x).isSome = true

/-- R18: which families write the flags. What the arithmetic and logic instructions write is said by the statements on each. -/
def Obligations.FlagsByFamily : Prop :=
  ∀ (i : Instr) (s t : State), exec i s = .next t →
    (i.asm.mnemonic.family = .dataMovement → i ≠ .popF → t.flags = s.flags) ∧
    (i.asm.mnemonic.family = .branch → t.flags = s.flags) ∧
    (i.asm.mnemonic.family = .control → t.flags = { s.flags with carry := t.flags.carry }) ∧
    (i = .halt ∨ i = .nop → t.flags = s.flags)

/-- The access widths of R43 for all 256 instructions; where the positions lie is the spec's decision D4 (addressing forms), D6
(stack). -/
def Obligations.MemoryFrame : Prop :=
  ∀ (i : Instr) (s t : State) (x : Word), exec i s = .next t → x ∉ storesTo i s → t.peek x = s.peek x

/-- The side effects of R47 and R32 (the spec's decision D12); the counter of drawn bytes is the model's own
(notes/assumptions/4.md). -/
def Obligations.PeripheralFrame : Prop :=
  ∀ (i : Instr) (s t : State), exec i s = .next t →
    (i.asm.mnemonic ≠ .in → t.input = s.input ∧ t.inputDraws = s.inputDraws) ∧
    (i.asm.mnemonic ≠ .out → t.output = s.output) ∧
    s.output.length ≤ t.output.length ∧ t.output.length ≤ s.output.length + 1 ∧ t.output.take s.output.length = s.output

/-- The list of the writers of `SP` in R12; R12's account of the stack is the spec's decision D6. -/
def Obligations.StackPointerWriters : Prop :=
  ∀ (i : Instr) (s t : State), exec i s = .next t → writesSp i = false → t.sp = s.sp

/-- R10 and R11; the order inside `CD` is the spec's decision D3. -/
def Obligations.RegistersAndPairs : Prop :=
  (∀ (s : State) (r q : Reg) (v : Byte), (s.setReg r v).reg q = if q = r then v else s.reg q) ∧
    (∀ s : State, (s.pair .AB).toNat = 256 * s.a.toNat + s.b.toNat ∧ (s.pair .CD).toNat = 256 * s.c.toNat + s.d.toNat) ∧
    ∀ (s : State) (p q : Pair) (v : Word), (s.setPair p v).pair q = if q = p then v else s.pair q

/-- R67, R68, R69 (the spec's decision D4, D5, D15). -/
def Obligations.EffectiveAddresses : Prop :=
  ∀ (s : State) (x : Word), effectiveAddress .spec (.direct x) s = x ∧
    (∀ p : Pair, effectiveAddress .spec (.implicit p) s = s.pair p) ∧
    ∀ p : Pair, (effectiveAddress .spec (.indexed p x) s).toNat = ((s.pair p).toNat + x.toNat) % 65536

/-- R40, R44, R47 (the spec's decision D3, D15). -/
def Obligations.MemoryReadAfterWrite : Prop :=
  (∀ (s : State) (a : Word) (v : Byte), ∃ t, writeByte .spec a v s = .next t ∧ t = { s with mem := t.mem } ∧
      readByte .spec a t = .next v ∧ ∀ x, x ≠ a → t.peek x = s.peek x) ∧
    ∀ (s : State) (a v : Word), ∃ t, writeWord .spec a v s = .next t ∧ t = { s with mem := t.mem } ∧
      readByte .spec a t = .next (BitVec.ofNat 8 (v.toNat / 256)) ∧ readByte .spec (a + 1) t = .next (BitVec.ofNat 8 v.toNat) ∧
      readWord .spec a t = .next v ∧ ∀ x, x ≠ a → x ≠ a + 1 → t.peek x = s.peek x

/-- The equalities R53 and R54 state (the spec's decision D6). -/
def Obligations.StackWordsAreTwoBytes : Prop :=
  (∀ (s : State) (v : Word), ∃ t u w, pushWord .spec v s = .next t ∧ pushByte .spec (loByte v) s = .next u ∧
      pushByte .spec (hiByte v) u = .next w ∧ t = { w with mem := t.mem } ∧ ∀ x, t.peek x = w.peek x) ∧
    ∀ (s t u : State) (hi lo : Byte), popByte .spec s = .next (hi, t) → popByte .spec t = .next (lo, u) →
      popWord .spec s = .next (hi ++ lo, u)

/-- R100, for the 36 loads and the 13 stores. By how much `IP` moves rests on the lengths of D2 (notes/assumptions/11.md), the
addressing forms on D4 (notes/assumptions/12.md). -/
def Obligations.Mov8 : Prop :=
  ∀ (s : State) (v : Byte) (x : Word),
    (∀ (i : Instr) (r : Reg), (i, r) ∈
        ([(.movA_imm8 v, .A), (.movB_imm8 v, .B), (.movC_imm8 v, .C), (.movD_imm8 v, .D)] :
        List (Instr × Reg)) →
      exec i s = .next { s.setReg r v with ip := s.ip + 2 }) ∧
    (∀ (i : Instr) (r q : Reg), (i, r, q) ∈
        ([(.movA_B, .A, .B), (.movA_C, .A, .C), (.movA_D, .A, .D), (.movB_A, .B, .A), (.movB_C, .B, .C), (.movB_D, .B,
        .D), (.movC_A, .C, .A), (.movC_B, .C, .B), (.movC_D, .C, .D), (.movD_A, .D, .A), (.movD_B, .D, .B), (.movD_C,
        .D, .C)] :
        List (Instr × Reg × Reg)) →
      exec i s = .next { s.setReg r (s.reg q) with ip := s.ip + 1 }) ∧
    (∀ (i : Instr) (r : Reg) (m : AddrForm) (len : Word), (i, r, m, len) ∈
        ([(.movA_atAddr x, .A, .direct x, 3), (.movA_atAB, .A, .implicit .AB, 1), (.movA_atCD, .A, .implicit .CD, 1),
        (.movA_atABdisp x, .A, .indexed .AB x, 3), (.movA_atCDdisp x, .A, .indexed .CD x, 3), (.movB_atAddr x, .B,
        .direct x, 3), (.movB_atAB, .B, .implicit .AB, 1), (.movB_atCD, .B, .implicit .CD, 1), (.movB_atABdisp x, .B,
        .indexed .AB x, 3), (.movB_atCDdisp x, .B, .indexed .CD x, 3), (.movC_atAddr x, .C, .direct x, 3),
        (.movC_atAB, .C, .implicit .AB, 1), (.movC_atCD, .C, .implicit .CD, 1), (.movC_atABdisp x, .C, .indexed .AB x,
        3), (.movC_atCDdisp x, .C, .indexed .CD x, 3), (.movD_atAddr x, .D, .direct x, 3), (.movD_atAB, .D, .implicit
        .AB, 1), (.movD_atCD, .D, .implicit .CD, 1), (.movD_atABdisp x, .D, .indexed .AB x, 3), (.movD_atCDdisp x, .D,
        .indexed .CD x, 3)] :
        List (Instr × Reg × AddrForm × Word)) →
      ∀ y : Byte, s.peek (effectiveAddress .spec m s) = some y → exec i s = .next { s.setReg r y with ip := s.ip + len }) ∧
    (∀ (i : Instr) (m : AddrForm) (q : Reg) (len : Word), (i, m, q, len) ∈
        ([(.movAtAddr_A x, .direct x, .A, 3), (.movAtAddr_B x, .direct x, .B, 3), (.movAtAddr_C x, .direct x, .C, 3),
        (.movAtAddr_D x, .direct x, .D, 3), (.movAtAB_C, .implicit .AB, .C, 1), (.movAtAB_D, .implicit .AB, .D, 1),
        (.movAtCD_A, .implicit .CD, .A, 1), (.movAtCD_B, .implicit .CD, .B, 1), (.movAtABdisp_C x, .indexed .AB x, .C,
        3), (.movAtABdisp_D x, .indexed .AB x, .D, 3), (.movAtCDdisp_A x, .indexed .CD x, .A, 3), (.movAtCDdisp_B x,
        .indexed .CD x, .B, 3)] :
        List (Instr × AddrForm × Reg × Word)) →
      ∃ t, exec i s = .next t ∧ t = { s with mem := t.mem, ip := s.ip + len } ∧
        ∀ a : Word, t.peek a = if a = effectiveAddress .spec m s then some (s.reg q) else s.peek a) ∧
    ∃ t, exec (.movAtAddr_imm8 x v) s = .next t ∧ t = { s with mem := t.mem, ip := s.ip + 4 } ∧
      ∀ a : Word, t.peek a = if a = x then some v else s.peek a

/-- R160, for the 16 to a pair, the 4 to `SP` and the 7 to memory (the spec's decision D3 for the order of the two bytes, D4 for
the addressing forms, D2 for the lengths). -/
def Obligations.Mov16 : Prop :=
  ∀ (s : State) (x : Word),
    (∀ (i : Instr) (p : Pair), (i, p) ∈
        ([(.movAB_imm16 x, .AB), (.movCD_imm16 x, .CD)] :
        List (Instr × Pair)) →
      exec i s = .next { s.setPair p x with ip := s.ip + 3 }) ∧
    (∀ (i : Instr) (p : Pair) (m : AddrForm) (len : Word), (i, p, m, len) ∈
        ([(.movAB_atAddr x, .AB, .direct x, 3), (.movAB_atAB, .AB, .implicit .AB, 1), (.movAB_atCD, .AB, .implicit .CD,
        1), (.movAB_atABdisp x, .AB, .indexed .AB x, 3), (.movAB_atCDdisp x, .AB, .indexed .CD x, 3), (.movCD_atAddr
        x, .CD, .direct x, 3), (.movCD_atAB, .CD, .implicit .AB, 1), (.movCD_atCD, .CD, .implicit .CD, 1),
        (.movCD_atABdisp x, .CD, .indexed .AB x, 3), (.movCD_atCDdisp x, .CD, .indexed .CD x, 3)] :
        List (Instr × Pair × AddrForm × Word)) →
      ∀ hi lo : Byte, s.peek (effectiveAddress .spec m s) = some hi → s.peek (effectiveAddress .spec m s + 1) = some lo →
        exec i s = .next { s.setPair p (hi ++ lo) with ip := s.ip + len }) ∧
    exec .movAB_CD s = .next { s with a := s.c, b := s.d, ip := s.ip + 1 } ∧
    exec .movCD_AB s = .next { s with c := s.a, d := s.b, ip := s.ip + 1 } ∧
    exec .movAB_SP s = .next { s.setPair .AB s.sp with ip := s.ip + 1 } ∧
    exec .movCD_SP s = .next { s.setPair .CD s.sp with ip := s.ip + 1 } ∧
    exec (.movSP_imm16 x) s = .next { s with sp := x, ip := s.ip + 3 } ∧
    (∀ hi lo : Byte, s.peek x = some hi → s.peek (x + 1) = some lo →
      exec (.movSP_atAddr x) s = .next { s with sp := hi ++ lo, ip := s.ip + 3 }) ∧
    exec .movSP_AB s = .next { s with sp := s.a ++ s.b, ip := s.ip + 1 } ∧
    exec .movSP_CD s = .next { s with sp := s.c ++ s.d, ip := s.ip + 1 } ∧
    (∀ (i : Instr) (m : AddrForm) (p : Pair) (len : Word), (i, m, p, len) ∈
        ([(.movAtAddr_AB x, .direct x, .AB, 3), (.movAtAddr_CD x, .direct x, .CD, 3), (.movAtAB_CD, .implicit .AB, .CD,
        1), (.movAtCD_AB, .implicit .CD, .AB, 1), (.movAtABdisp_CD x, .indexed .AB x, .CD, 3), (.movAtCDdisp_AB x,
        .indexed .CD x, .AB, 3)] :
        List (Instr × AddrForm × Pair × Word)) →
      ∃ t, exec i s = .next t ∧ t = { s with mem := t.mem, ip := s.ip + len } ∧
        ∀ a : Word, t.peek a = if a = effectiveAddress .spec m s then some (s.reg (pairHi p))
          else if a = effectiveAddress .spec m s + 1 then some (s.reg (pairLo p)) else s.peek a) ∧
    ∃ t, exec (.movAtAddr_SP x) s = .next t ∧ t = { s with mem := t.mem, ip := s.ip + 3 } ∧
      ∀ a : Word, t.peek a = if a = x then some (BitVec.ofNat 8 (s.sp.toNat / 256))
        else if a = x + 1 then some (BitVec.ofNat 8 s.sp.toNat) else s.peek a

/-- R190; the streams are the spec's D12 and the supplied list is the model's (notes/assumptions/4.md). Nothing rests on a drawn
byte. -/
def Obligations.InputAndOutput : Prop :=
  ∀ (s : State) (r : Reg),
    (∀ i : Instr, (i, r) ∈ ([(.inA, .A), (.inB, .B)] : List (Instr × Reg)) →
      (∀ (v : Byte) (rest : List Byte), s.input = v :: rest →
        exec i s = .next { s.setReg r v with input := rest, ip := s.ip + 1 }) ∧
      (s.input = [] → ∃ v : Byte,
        exec i s = .next { s.setReg r v with inputDraws := s.inputDraws + 1, ip := s.ip + 1 })) ∧
    ∀ i : Instr, (i, r) ∈ ([(.outA, .A), (.outB, .B)] : List (Instr × Reg)) →
      exec i s = .next { s with output := s.output ++ [s.reg r], ip := s.ip + 1 }

/-- R199 to R204 with R51 (the spec's decision D6) and R17 (D7). -/
def Obligations.Push8 : Prop :=
  ∀ s : State,
    (∀ (i : Instr) (v : Byte), (i, v) ∈
        ([(.pushA, s.a), (.pushB, s.b), (.pushC, s.c), (.pushD, s.d), (.pushF, BitVec.ofNat 8 (16 * s.flags.sign.toNat + 8 * s.flags.parity.toNat + 4 * s.flags.overflow.toNat +
          2 * s.flags.carry.toNat + s.flags.zero.toNat))] :
        List (Instr × Byte)) →
      ∃ t, exec i s = .next t ∧ t = { s with sp := s.sp - 1, mem := t.mem, ip := s.ip + 1 } ∧
        ∀ a : Word, t.peek a = if a = s.sp - 1 then some v else s.peek a) ∧
    ∀ (x : Word) (v : Byte), s.peek x = some v →
      ∃ t, exec (.pushAtAddr x) s = .next t ∧ t = { s with sp := s.sp - 1, mem := t.mem, ip := s.ip + 3 } ∧
        ∀ a : Word, t.peek a = if a = s.sp - 1 then some v else s.peek a

/-- R205 to R210 with R52 (the spec's decision D6) and R17 (D7). -/
def Obligations.Pop8 : Prop :=
  ∀ (s : State) (v : Byte), s.peek s.sp = some v →
    (∀ (i : Instr) (r : Reg), (i, r) ∈
        ([(.popA, .A), (.popB, .B), (.popC, .C), (.popD, .D)] : List (Instr × Reg)) →
      exec i s = .next { s.setReg r v with sp := s.sp + 1, ip := s.ip + 1 }) ∧
    exec .popF s = .next { s with
      flags := { sign := v.getLsbD 4, parity := v.getLsbD 3, overflow := v.getLsbD 2, carry := v.getLsbD 1, zero := v.getLsbD 0 },
      sp := s.sp + 1, ip := s.ip + 1 } ∧
    ∀ x : Word, ∃ t, exec (.popAtAddr x) s = .next t ∧ t = { s with sp := s.sp + 1, mem := t.mem, ip := s.ip + 3 } ∧
      ∀ a : Word, t.peek a = if a = x then some v else s.peek a

/-- R211 to R214 with R53, R54 (the spec's decision D6). -/
def Obligations.PushAndPop16 : Prop :=
  ∀ (s : State) (p : Pair),
    (∀ i : Instr, (i, p) ∈ ([(.pushAB, .AB), (.pushCD, .CD)] : List (Instr × Pair)) →
      ∃ t, exec i s = .next t ∧ t = { s with sp := s.sp - 2, mem := t.mem, ip := s.ip + 1 } ∧
        ∀ a : Word, t.peek a = if a = s.sp - 2 then some (s.reg (pairHi p))
          else if a = s.sp - 1 then some (s.reg (pairLo p)) else s.peek a) ∧
    ∀ i : Instr, (i, p) ∈ ([(.popAB, .AB), (.popCD, .CD)] : List (Instr × Pair)) →
      ∀ hi lo : Byte, s.peek s.sp = some hi → s.peek (s.sp + 1) = some lo →
        exec i s = .next { (s.setReg (pairHi p) hi).setReg (pairLo p) lo with sp := s.sp + 2, ip := s.ip + 1 }

/-- What R51 to R54 and R17 give together (the spec's decision D6, D7). -/
def Obligations.PushThenPopCopies : Prop :=
  ∀ s : State,
    (∀ (i j : Instr) (p q : Pair), (i, p) ∈ ([(.pushAB, .AB), (.pushCD, .CD)] : List (Instr × Pair)) →
      (j, q) ∈ ([(.popAB, .AB), (.popCD, .CD)] : List (Instr × Pair)) →
      ∃ t u, exec i s = .next t ∧ exec j t = .next u ∧
        u = { s.setPair q (s.pair p) with mem := u.mem, ip := s.ip + 2 } ∧
        ∀ a : Word, a ≠ s.sp - 2 → a ≠ s.sp - 1 → u.peek a = s.peek a) ∧
    ∃ t u, exec .pushF s = .next t ∧ exec .popF t = .next u ∧ u = { s with mem := u.mem, ip := s.ip + 2 } ∧
      ∀ a : Word, a ≠ s.sp - 1 → u.peek a = s.peek a

/-- R225 to R234 with R23 (the spec's decision D8). -/
def Obligations.IncDec8 : Prop :=
  ∀ s : State,
    (∀ (i : Instr) (r : Reg), (i, r) ∈ ([(.incA, .A), (.incB, .B), (.incC, .C), (.incD, .D)] :
        List (Instr × Reg)) →
      ∃ f : Flags, exec i s = .next { s.setReg r (s.reg r + 1) with flags := f, ip := s.ip + 1 } ∧
        f.Show (s.reg r + 1) ∧ f.carry = s.flags.carry ∧ f.overflow = decide (s.reg r = 0x7F)) ∧
    (∀ (i : Instr) (r : Reg), (i, r) ∈ ([(.decA, .A), (.decB, .B), (.decC, .C), (.decD, .D)] :
        List (Instr × Reg)) →
      ∃ f : Flags, exec i s = .next { s.setReg r (s.reg r - 1) with flags := f, ip := s.ip + 1 } ∧
        f.Show (s.reg r - 1) ∧ f.carry = s.flags.carry ∧ f.overflow = decide (s.reg r = 0x80)) ∧
    ∀ (x : Word) (v : Byte), s.peek x = some v →
      (∃ t, exec (.incAtAddr x) s = .next t ∧ t = { s with flags := t.flags, mem := t.mem, ip := s.ip + 3 } ∧
        t.flags.Show (v + 1) ∧ t.flags.carry = s.flags.carry ∧ t.flags.overflow = decide (v = 0x7F) ∧
        ∀ a : Word, t.peek a = if a = x then some (v + 1) else s.peek a) ∧
      ∃ t, exec (.decAtAddr x) s = .next t ∧ t = { s with flags := t.flags, mem := t.mem, ip := s.ip + 3 } ∧
        t.flags.Show (v - 1) ∧ t.flags.carry = s.flags.carry ∧ t.flags.overflow = decide (v = 0x80) ∧
        ∀ a : Word, t.peek a = if a = x then some (v - 1) else s.peek a

/-- R235 to R240 with R23 (the spec's decision D8). -/
def Obligations.IncDec16 : Prop :=
  ∀ s : State,
    (∀ (i : Instr) (p : Pair), (i, p) ∈ ([(.incAB, .AB), (.incCD, .CD)] : List (Instr × Pair)) →
      ∃ f : Flags, exec i s = .next { s.setPair p (s.pair p + 1) with flags := f, ip := s.ip + 1 } ∧
        f.Show (s.pair p + 1) ∧ f.carry = s.flags.carry ∧ f.overflow = decide (s.pair p = 0x7FFF)) ∧
    (∀ (i : Instr) (p : Pair), (i, p) ∈ ([(.decAB, .AB), (.decCD, .CD)] : List (Instr × Pair)) →
      ∃ f : Flags, exec i s = .next { s.setPair p (s.pair p - 1) with flags := f, ip := s.ip + 1 } ∧
        f.Show (s.pair p - 1) ∧ f.carry = s.flags.carry ∧ f.overflow = decide (s.pair p = 0x8000)) ∧
    (∃ f : Flags, exec .incSP s = .next { s with sp := s.sp + 1, flags := f, ip := s.ip + 1 } ∧
      f.Show (s.sp + 1) ∧ f.carry = s.flags.carry ∧ f.overflow = decide (s.sp = 0x7FFF)) ∧
    ∃ f : Flags, exec .decSP s = .next { s with sp := s.sp - 1, flags := f, ip := s.ip + 1 } ∧
      f.Show (s.sp - 1) ∧ f.carry = s.flags.carry ∧ f.overflow = decide (s.sp = 0x8000)

/-- R241 to R244, R253, R254 with R25 (the spec's decision D8, D9). -/
def Obligations.NotAndNeg : Prop :=
  ∀ s : State,
    (∀ (i : Instr) (r : Reg), (i, r) ∈ ([(.notA, .A), (.notB, .B)] : List (Instr × Reg)) →
      exec i s = .next { s.setReg r (~~~ s.reg r) with ip := s.ip + 1 }) ∧
    exec .notAB s = .next { s with a := ~~~ s.a, b := ~~~ s.b, ip := s.ip + 1 } ∧
    (∀ (i : Instr) (r : Reg), (i, r) ∈ ([(.negA, .A), (.negB, .B)] : List (Instr × Reg)) →
      ∃ f : Flags, exec i s = .next { s.setReg r (-s.reg r) with flags := f, ip := s.ip + 1 } ∧
        f.Show (-s.reg r) ∧ f.carry = decide (s.reg r ≠ 0) ∧ f.overflow = decide (s.reg r = 0x80)) ∧
    ∃ f : Flags, exec .negAB s = .next { s.setPair .AB (-s.pair .AB) with flags := f, ip := s.ip + 1 } ∧
      f.Show (-s.pair .AB) ∧ f.carry = decide (s.pair .AB ≠ 0) ∧ f.overflow = decide (s.pair .AB = 0x8000)

/-- R245 to R248, R255, R256 with R26 (the spec's decision D8, D9). -/
def Obligations.Shifts : Prop :=
  ∀ s : State,
    (∀ (i : Instr) (r : Reg), (i, r) ∈ ([(.shlA, .A), (.shlB, .B)] : List (Instr × Reg)) →
      ∃ f : Flags, exec i s = .next { s.setReg r (s.reg r <<< 1) with flags := f, ip := s.ip + 1 } ∧
        f.Show (s.reg r <<< 1) ∧ f.carry = (s.reg r).getLsbD 7 ∧
        f.overflow = ((s.reg r).getLsbD 6 != (s.reg r).getLsbD 7)) ∧
    (∀ (i : Instr) (r : Reg), (i, r) ∈ ([(.shrA, .A), (.shrB, .B)] : List (Instr × Reg)) →
      ∃ f : Flags, exec i s = .next { s.setReg r (s.reg r >>> 1) with flags := f, ip := s.ip + 1 } ∧
        f.Show (s.reg r >>> 1) ∧ f.sign = false ∧ f.carry = (s.reg r).getLsbD 0 ∧ f.overflow = (s.reg r).getLsbD 7) ∧
    (∃ f : Flags, exec .shlAB s = .next { s.setPair .AB (s.pair .AB <<< 1) with flags := f, ip := s.ip + 1 } ∧
      f.Show (s.pair .AB <<< 1) ∧ f.carry = s.a.getLsbD 7 ∧ f.overflow = (s.a.getLsbD 6 != s.a.getLsbD 7)) ∧
    ∃ f : Flags, exec .shrAB s = .next { s.setPair .AB (s.pair .AB >>> 1) with flags := f, ip := s.ip + 1 } ∧
      f.Show (s.pair .AB >>> 1) ∧ f.sign = false ∧ f.carry = s.b.getLsbD 0 ∧ f.overflow = s.a.getLsbD 7

/-- R249 to R252, R257, R258 with R27 (the spec's decision D8, D9). -/
def Obligations.Rotations : Prop :=
  ∀ s : State,
    (∀ (i : Instr) (r : Reg), (i, r) ∈ ([(.rlA, .A), (.rlB, .B)] : List (Instr × Reg)) →
      exec i s = .next { s.setReg r ((s.reg r).rotateLeft 1) with ip := s.ip + 1, flags := { s.flags with
        carry := (s.reg r).getLsbD 7, overflow := (s.reg r).getLsbD 6 != (s.reg r).getLsbD 7 } }) ∧
    (∀ (i : Instr) (r : Reg), (i, r) ∈ ([(.rrA, .A), (.rrB, .B)] : List (Instr × Reg)) →
      exec i s = .next { s.setReg r ((s.reg r).rotateRight 1) with ip := s.ip + 1, flags := { s.flags with
        carry := (s.reg r).getLsbD 0, overflow := (s.reg r).getLsbD 0 != (s.reg r).getLsbD 7 } }) ∧
    exec .rlAB s = .next { s.setPair .AB ((s.pair .AB).rotateLeft 1) with ip := s.ip + 1, flags := { s.flags with
      carry := s.a.getLsbD 7, overflow := s.a.getLsbD 6 != s.a.getLsbD 7 } } ∧
    exec .rrAB s = .next { s.setPair .AB ((s.pair .AB).rotateRight 1) with ip := s.ip + 1, flags := { s.flags with
      carry := s.b.getLsbD 0, overflow := s.b.getLsbD 0 != s.a.getLsbD 7 } }

/-- R283 to R290 and R299 to R306 with R21 (the spec's decision D8). -/
def Obligations.AddAdc8 : Prop :=
  ∀ (s : State) (v : Byte) (i : Instr) (r : Reg) (b : Byte) (len : Word) (cin : Bool), (i, r, b, len, cin) ∈
        ([(.addA_imm8 v, .A, v, 2, false), (.addA_B, .A, s.b, 1, false), (.addA_C, .A, s.c, 1, false), (.addA_D, .A,
        s.d, 1, false), (.addB_imm8 v, .B, v, 2, false), (.addB_A, .B, s.a, 1, false), (.addB_C, .B, s.c, 1, false),
        (.addB_D, .B, s.d, 1, false), (.adcA_imm8 v, .A, v, 2, s.flags.carry), (.adcA_B, .A, s.b, 1, s.flags.carry),
        (.adcA_C, .A, s.c, 1, s.flags.carry), (.adcA_D, .A, s.d, 1, s.flags.carry), (.adcB_imm8 v, .B, v, 2,
        s.flags.carry), (.adcB_A, .B, s.a, 1, s.flags.carry), (.adcB_C, .B, s.c, 1, s.flags.carry), (.adcB_D, .B, s.d,
        1, s.flags.carry)] :
        List (Instr × Reg × Byte × Word × Bool)) →
    ∃ f : Flags, exec i s = .next { s.setReg r (s.reg r + b + BitVec.ofNat 8 cin.toNat) with flags := f, ip := s.ip + len } ∧
      f.Show (s.reg r + b + BitVec.ofNat 8 cin.toNat) ∧
      (f.carry = true ↔ 256 ≤ (s.reg r).toNat + b.toNat + cin.toNat) ∧
      (f.overflow = true ↔ OutOfRange 8 ((s.reg r).toInt + b.toInt + cin.toNat))

/-- R275 to R282 and R291 to R298 with R22 (the spec's decision D8). -/
def Obligations.SubSbb8 : Prop :=
  ∀ (s : State) (v : Byte) (i : Instr) (r : Reg) (b : Byte) (len : Word) (bin : Bool), (i, r, b, len, bin) ∈
        ([(.subA_imm8 v, .A, v, 2, false), (.subA_B, .A, s.b, 1, false), (.subA_C, .A, s.c, 1, false), (.subA_D, .A,
        s.d, 1, false), (.subB_imm8 v, .B, v, 2, false), (.subB_A, .B, s.a, 1, false), (.subB_C, .B, s.c, 1, false),
        (.subB_D, .B, s.d, 1, false), (.sbbA_imm8 v, .A, v, 2, s.flags.carry), (.sbbA_B, .A, s.b, 1, s.flags.carry),
        (.sbbA_C, .A, s.c, 1, s.flags.carry), (.sbbA_D, .A, s.d, 1, s.flags.carry), (.sbbB_imm8 v, .B, v, 2,
        s.flags.carry), (.sbbB_A, .B, s.a, 1, s.flags.carry), (.sbbB_C, .B, s.c, 1, s.flags.carry), (.sbbB_D, .B, s.d,
        1, s.flags.carry)] :
        List (Instr × Reg × Byte × Word × Bool)) →
    ∃ f : Flags, exec i s = .next { s.setReg r (s.reg r - b - BitVec.ofNat 8 bin.toNat) with flags := f, ip := s.ip + len } ∧
      f.Show (s.reg r - b - BitVec.ofNat 8 bin.toNat) ∧
      (f.carry = true ↔ (s.reg r).toNat < b.toNat + bin.toNat) ∧
      (f.overflow = true ↔ OutOfRange 8 ((s.reg r).toInt - b.toInt - bin.toNat))

/-- R307 to R314 with R22 and what R22 says holds after it (the spec's decision D8). -/
def Obligations.Cmp8 : Prop :=
  ∀ (s : State) (v : Byte) (i : Instr) (r : Reg) (b : Byte) (len : Word), (i, r, b, len) ∈
        ([(.cmpA_imm8 v, .A, v, 2), (.cmpA_B, .A, s.b, 1), (.cmpA_C, .A, s.c, 1), (.cmpA_D, .A, s.d, 1), (.cmpB_imm8 v,
        .B, v, 2), (.cmpB_A, .B, s.a, 1), (.cmpB_C, .B, s.c, 1), (.cmpB_D, .B, s.d, 1)] :
        List (Instr × Reg × Byte × Word)) →
    ∃ f : Flags, exec i s = .next { s with flags := f, ip := s.ip + len } ∧ f.Show (s.reg r - b) ∧
      (f.zero = true ↔ s.reg r = b) ∧ (f.carry = true ↔ (s.reg r).toNat < b.toNat) ∧
      (f.overflow = true ↔ OutOfRange 8 ((s.reg r).toInt - b.toInt)) ∧
      (f.sign ≠ f.overflow ↔ (s.reg r).toInt < b.toInt)

/-- R315 to R338 with R24 (the spec's decision D8). -/
def Obligations.Logic8 : Prop :=
  ∀ (s : State) (v : Byte) (i : Instr) (r : Reg) (res : Byte) (len : Word), (i, r, res, len) ∈
        ([(.andA_imm8 v, .A, s.a &&& v, 2), (.andA_B, .A, s.a &&& s.b, 1), (.andA_C, .A, s.a &&& s.c, 1), (.andA_D, .A,
        s.a &&& s.d, 1), (.andB_imm8 v, .B, s.b &&& v, 2), (.andB_A, .B, s.b &&& s.a, 1), (.andB_C, .B, s.b &&& s.c,
        1), (.andB_D, .B, s.b &&& s.d, 1), (.xorA_imm8 v, .A, s.a ^^^ v, 2), (.xorA_B, .A, s.a ^^^ s.b, 1), (.xorA_C,
        .A, s.a ^^^ s.c, 1), (.xorA_D, .A, s.a ^^^ s.d, 1), (.xorB_imm8 v, .B, s.b ^^^ v, 2), (.xorB_A, .B, s.b ^^^
        s.a, 1), (.xorB_C, .B, s.b ^^^ s.c, 1), (.xorB_D, .B, s.b ^^^ s.d, 1), (.orA_imm8 v, .A, s.a ||| v, 2),
        (.orA_B, .A, s.a ||| s.b, 1), (.orA_C, .A, s.a ||| s.c, 1), (.orA_D, .A, s.a ||| s.d, 1), (.orB_imm8 v, .B,
        s.b ||| v, 2), (.orB_A, .B, s.b ||| s.a, 1), (.orB_C, .B, s.b ||| s.c, 1), (.orB_D, .B, s.b ||| s.d, 1)] :
        List (Instr × Reg × Byte × Word)) →
    ∃ f : Flags, exec i s = .next { s.setReg r res with flags := f, ip := s.ip + len } ∧
      f.Show res ∧ f.carry = false ∧ f.overflow = false

/-- R345 to R351 with R21 (the spec's decision D8). -/
def Obligations.Add16 : Prop :=
  ∀ (s : State) (x : Word),
    (∀ (i : Instr) (p : Pair) (b len : Word), (i, p, b, len) ∈
        ([(.addAB_imm16 x, .AB, x, 3), (.addAB_CD, .AB, s.pair .CD, 1), (.addCD_imm16 x, .CD, x, 3), (.addCD_AB, .CD,
        s.pair .AB, 1)] :
        List (Instr × Pair × Word × Word)) →
      ∃ f : Flags, exec i s = .next { s.setPair p (s.pair p + b) with flags := f, ip := s.ip + len } ∧
        f.Show (s.pair p + b) ∧ (f.carry = true ↔ 65536 ≤ (s.pair p).toNat + b.toNat) ∧
        (f.overflow = true ↔ OutOfRange 16 ((s.pair p).toInt + b.toInt))) ∧
    ∀ (i : Instr) (b len : Word), (i, b, len) ∈
        ([(.addSP_imm16 x, x, 3), (.addSP_AB, s.pair .AB, 1), (.addSP_CD, s.pair .CD, 1)] :
        List (Instr × Word × Word)) →
      ∃ f : Flags, exec i s = .next { s with sp := s.sp + b, flags := f, ip := s.ip + len } ∧
        f.Show (s.sp + b) ∧ (f.carry = true ↔ 65536 ≤ s.sp.toNat + b.toNat) ∧
        (f.overflow = true ↔ OutOfRange 16 (s.sp.toInt + b.toInt))

/-- R352 to R358 with R22 (the spec's decision D8). -/
def Obligations.Sub16 : Prop :=
  ∀ (s : State) (x : Word),
    (∀ (i : Instr) (p : Pair) (b len : Word), (i, p, b, len) ∈
        ([(.subAB_imm16 x, .AB, x, 3), (.subAB_CD, .AB, s.pair .CD, 1), (.subCD_imm16 x, .CD, x, 3), (.subCD_AB, .CD,
        s.pair .AB, 1)] :
        List (Instr × Pair × Word × Word)) →
      ∃ f : Flags, exec i s = .next { s.setPair p (s.pair p - b) with flags := f, ip := s.ip + len } ∧
        f.Show (s.pair p - b) ∧ (f.carry = true ↔ (s.pair p).toNat < b.toNat) ∧
        (f.overflow = true ↔ OutOfRange 16 ((s.pair p).toInt - b.toInt))) ∧
    ∀ (i : Instr) (b len : Word), (i, b, len) ∈
        ([(.subSP_imm16 x, x, 3), (.subSP_AB, s.pair .AB, 1), (.subSP_CD, s.pair .CD, 1)] :
        List (Instr × Word × Word)) →
      ∃ f : Flags, exec i s = .next { s with sp := s.sp - b, flags := f, ip := s.ip + len } ∧
        f.Show (s.sp - b) ∧ (f.carry = true ↔ s.sp.toNat < b.toNat) ∧
        (f.overflow = true ↔ OutOfRange 16 (s.sp.toInt - b.toInt))

/-- R359 with R28 (the spec's decision D8, D10); `S`, `P`, `Z` are free (notes/assumptions/3.md). -/
def Obligations.MulUnsigned : Prop :=
  ∀ s : State, ∃ t, exec .mulA_D s = .next t ∧
    t = { s with a := t.a, b := t.b, flags := t.flags, flagDraws := s.flagDraws + 3, ip := s.ip + 1 } ∧
    (t.pair .AB).toNat = s.a.toNat * s.d.toNat ∧
    (t.flags.carry = true ↔ 255 < s.a.toNat * s.d.toNat) ∧ (t.flags.overflow = true ↔ 255 < s.a.toNat * s.d.toNat)

/-- R360 with R28 (the spec's decision D8, D10); `S`, `P`, `Z` are free (notes/assumptions/3.md). -/
def Obligations.MulSigned : Prop :=
  ∀ s : State, ∃ t, exec .imulA_D s = .next t ∧
    t = { s with a := t.a, b := t.b, flags := t.flags, flagDraws := s.flagDraws + 3, ip := s.ip + 1 } ∧
    (t.pair .AB).toInt = s.a.toInt * s.d.toInt ∧
    (t.flags.carry = true ↔ OutOfRange 8 (s.a.toInt * s.d.toInt)) ∧
    (t.flags.overflow = true ↔ OutOfRange 8 (s.a.toInt * s.d.toInt))

/-- R361 with R29 (the spec's decision D8, D10); all five flags are free (notes/assumptions/3.md). -/
def Obligations.DivUnsigned : Prop :=
  ∀ s : State,
    (s.a.toNat < s.d.toNat → ∃ t, exec .divAB_D s = .next t ∧
      t = { s with a := t.a, b := t.b, flags := t.flags, flagDraws := s.flagDraws + 5, ip := s.ip + 1 } ∧
      t.b.toNat * s.d.toNat + t.a.toNat = (s.pair .AB).toNat ∧ t.a.toNat < s.d.toNat) ∧
    (¬ s.a.toNat < s.d.toNat → ∀ t, exec .divAB_D s ≠ .next t)

/-- R362 with R29 (the spec's decision D8, D10); all five flags are free (notes/assumptions/3.md). -/
def Obligations.DivSigned : Prop :=
  ∀ s : State, s.d ≠ 0 → ¬ OutOfRange 8 ((s.pair .AB).toInt.tdiv s.d.toInt) →
    ∃ t, exec .idivAB_D s = .next t ∧
      t = { s with a := t.a, b := t.b, flags := t.flags, flagDraws := s.flagDraws + 5, ip := s.ip + 1 } ∧
      t.b.toInt = (s.pair .AB).toInt.tdiv s.d.toInt ∧
      t.b.toInt * s.d.toInt + t.a.toInt = (s.pair .AB).toInt ∧ t.a.toInt.natAbs < s.d.toInt.natAbs ∧
      (t.a.toInt = 0 ∨ (t.a.toInt < 0 ↔ (s.pair .AB).toInt < 0))

/-- R501 and R504 (the spec's decision D10, `DIV_FAULT`). -/
def Obligations.DivideErrors : Prop :=
  ∀ s : State,
    (s.d = 0 → exec .divAB_D s = .fault (.divideError .zero) ∧ exec .idivAB_D s = .fault (.divideError .zero)) ∧
    (s.d ≠ 0 → s.d.toNat ≤ s.a.toNat → exec .divAB_D s = .fault (.divideError .overflow)) ∧
    (s.d ≠ 0 → OutOfRange 8 ((s.pair .AB).toInt.tdiv s.d.toInt) →
      exec .idivAB_D s = .fault (.divideError .overflow))

/-- R363; that it writes no flag is the spec's decision D8. -/
def Obligations.ExpandSign : Prop :=
  ∀ s : State, ∃ t, exec .expA_B s = .next t ∧ t = { s with a := t.a, ip := s.ip + 1 } ∧
    t.a = (if s.b.toInt < 0 then 0xFF else 0x00) ∧ (t.pair .AB).toInt = s.b.toInt

/-- R374 to R376 with R371 (the spec's decision D11). -/
def Obligations.JumpRelative : Prop :=
  ∀ (s : State) (v : Byte), ∃ t u w,
    exec (.jr_rel8 v) s = .next t ∧ t = { s with ip := t.ip } ∧
      (t.ip.toNat : Int) = ((s.ip.toNat : Int) + 2 + v.toInt) % 65536 ∧
    exec .jrA s = .next u ∧ u = { s with ip := u.ip } ∧
      (u.ip.toNat : Int) = ((s.ip.toNat : Int) + 1 + s.a.toInt) % 65536 ∧
    exec .jrB s = .next w ∧ w = { s with ip := w.ip } ∧
      (w.ip.toNat : Int) = ((s.ip.toNat : Int) + 1 + s.b.toInt) % 65536

/-- The sixteen conditions are R373. That a branch not taken moves `IP` by 2 rests on the length of D2 (notes/assumptions/11.md),
where a taken one goes on D11 (the statement JumpRelative; notes/assumptions/15.md). -/
def Obligations.FlagBranches : Prop :=
  ∀ (s : State) (v : Byte) (i : Instr) (condition : Bool), (i, condition) ∈
        ([(.js_rel8 v, s.flags.sign), (.jp_rel8 v, s.flags.parity), (.jo_rel8 v, s.flags.overflow), (.jc_rel8 v,
        s.flags.carry), (.jz_rel8 v, s.flags.zero), (.jns_rel8 v, !s.flags.sign), (.jnp_rel8 v, !s.flags.parity),
        (.jno_rel8 v, !s.flags.overflow), (.jnc_rel8 v, !s.flags.carry), (.jnz_rel8 v, !s.flags.zero), (.jzc_rel8 v,
        s.flags.carry || s.flags.zero), (.jnzc_rel8 v, !s.flags.carry && !s.flags.zero), (.jso_rel8 v, s.flags.sign ==
        s.flags.overflow), (.jnso_rel8 v, s.flags.sign != s.flags.overflow), (.jsonz_rel8 v, !s.flags.zero &&
        s.flags.sign == s.flags.overflow), (.jznso_rel8 v, s.flags.zero || s.flags.sign != s.flags.overflow)] :
        List (Instr × Bool)) →
    exec i s = (if condition = true then exec (.jr_rel8 v) s else .next { s with ip := s.ip + 2 }) ∧
      ∃ t, exec i s = .next t ∧ t = { s with ip := t.ip }

/-- R393 to R400; where a taken branch goes is the spec's decision D11. -/
def Obligations.RegisterBranches : Prop :=
  ∀ (s : State) (v : Byte) (r : Reg),
    (∀ i : Instr, (i, r) ∈
        ([(.jeqzA_rel8 v, .A), (.jeqzB_rel8 v, .B), (.jeqzC_rel8 v, .C), (.jeqzD_rel8 v, .D)] :
        List (Instr × Reg)) →
      exec i s = (if s.reg r = 0 then exec (.jr_rel8 v) s else .next { s with ip := s.ip + 2 }) ∧
        ∃ t, exec i s = .next t ∧ t = { s with ip := t.ip }) ∧
    ∀ i : Instr, (i, r) ∈
        ([(.jneqzA_rel8 v, .A), (.jneqzB_rel8 v, .B), (.jneqzC_rel8 v, .C), (.jneqzD_rel8 v, .D)] :
        List (Instr × Reg)) →
      exec i s = (if s.reg r = 0 then .next { s with ip := s.ip + 2 } else exec (.jr_rel8 v) s) ∧
        ∃ t, exec i s = .next t ∧ t = { s with ip := t.ip }

/-- R401 to R404; where a taken branch goes is the spec's decision D11. -/
def Obligations.LoopBranches : Prop :=
  ∀ (s : State) (v : Byte) (i : Instr) (r : Reg), (i, r) ∈
        ([(.loopA_rel8 v, .A), (.loopB_rel8 v, .B), (.loopC_rel8 v, .C), (.loopD_rel8 v, .D)] :
        List (Instr × Reg)) →
    ∃ t, exec i s = .next t ∧ t = { s.setReg r (t.reg r) with ip := t.ip } ∧
      (t.reg r).toNat = ((s.reg r).toNat + 255) % 256 ∧
      (s.reg r = 1 → t.ip = s.ip + 2) ∧ (s.reg r ≠ 1 → exec (.jr_rel8 v) s = .next { s with ip := t.ip })

/-- R405, R406, R407 (with R372: the value is simply copied). -/
def Obligations.JumpAbsolute : Prop :=
  ∀ (s : State) (x : Word),
    exec (.jmp_imm16 x) s = .next { s with ip := x } ∧
    exec .jmpAB s = .next { s with ip := s.pair .AB } ∧
    exec .jmpCD s = .next { s with ip := s.pair .CD }

/-- R408 to R410 with R53 (the spec's decision D6, D3). -/
def Obligations.CallPushesReturnAddress : Prop :=
  ∀ (s : State) (x : Word) (i : Instr) (target len : Word), (i, target, len) ∈
        ([(.call_imm16 x, x, 3), (.callAB, s.pair .AB, 1), (.callCD, s.pair .CD, 1)] : List (Instr × Word × Word)) →
    ∃ t, exec i s = .next t ∧ t = { s with sp := s.sp - 2, mem := t.mem, ip := target } ∧
      ∀ a : Word, t.peek a = if a = s.sp - 2 then some (BitVec.ofNat 8 ((s.ip + len).toNat / 256))
        else if a = s.sp - 1 then some (BitVec.ofNat 8 (s.ip + len).toNat) else s.peek a

/-- R411 with R54 (the spec's decision D6, D3). -/
def Obligations.ReturnPopsAddress : Prop :=
  ∀ (s : State) (hi lo : Byte), s.peek s.sp = some hi → s.peek (s.sp + 1) = some lo →
    exec .ret s = .next { s with sp := s.sp + 2, ip := hi ++ lo }

/-- What R408 to R411 give together (the spec's decision D6). -/
def Obligations.CallThenReturn : Prop :=
  ∀ (s : State) (x : Word) (i : Instr) (len : Word), (i, len) ∈
        ([(.call_imm16 x, 3), (.callAB, 1), (.callCD, 1)] : List (Instr × Word)) →
    ∃ t u, exec i s = .next t ∧ exec .ret t = .next u ∧ u = { s with mem := u.mem, ip := s.ip + len } ∧
      ∀ a : Word, a ≠ s.sp - 2 → a ≠ s.sp - 1 → u.peek a = s.peek a

/-- The meanings R19 and D8 give the branches after a comparison (the spec's decision D8). -/
def Obligations.CompareThenBranch : Prop :=
  ∀ (s : State) (v : Byte) (i : Instr) (r : Reg) (b : Byte) (len : Word), (i, r, b, len) ∈
        ([(.cmpA_imm8 v, .A, v, 2), (.cmpA_B, .A, s.b, 1), (.cmpA_C, .A, s.c, 1), (.cmpA_D, .A, s.d, 1), (.cmpB_imm8 v,
        .B, v, 2), (.cmpB_A, .B, s.a, 1), (.cmpB_C, .B, s.c, 1), (.cmpB_D, .B, s.d, 1)] :
        List (Instr × Reg × Byte × Word)) →
    ∃ t, exec i s = .next t ∧ ∀ (o : Byte) (j : Instr) (relation : Prop), (j, relation) ∈
        ([(.jz_rel8 o, s.reg r = b), (.jnz_rel8 o, s.reg r ≠ b), (.jc_rel8 o, (s.reg r).toNat < b.toNat),
          (.jnc_rel8 o, b.toNat ≤ (s.reg r).toNat), (.jzc_rel8 o, (s.reg r).toNat ≤ b.toNat),
          (.jnzc_rel8 o, b.toNat < (s.reg r).toNat), (.jso_rel8 o, b.toInt ≤ (s.reg r).toInt),
          (.jnso_rel8 o, (s.reg r).toInt < b.toInt), (.jsonz_rel8 o, b.toInt < (s.reg r).toInt),
          (.jznso_rel8 o, (s.reg r).toInt ≤ b.toInt)] : List (Instr × Prop)) →
      (relation → exec j t = exec (.jr_rel8 o) t) ∧ (¬ relation → exec j t = .next { t with ip := t.ip + 2 })

/-- What a branch changes, and nothing else, is R370; that the two stack bytes of `CALL` are those from the new `SP` on is the
spec's decision D6 (notes/assumptions/13.md). There are no delay slots: the next instruction is the one at the new `IP`, by
the statement StepRunsDecodedInstruction. -/
def Obligations.BranchFrame : Prop :=
  ∀ (i : Instr) (s t : State), i.asm.mnemonic.family = .branch → exec i s = .next t →
    t = { s with a := t.a, b := t.b, c := t.c, d := t.d, sp := t.sp, mem := t.mem, ip := t.ip } ∧
    (∀ r : Reg, t.reg r ≠ s.reg r → i.asm.mnemonic = .loop ∧ .byte (.loc (.reg r)) ∈ i.asm.operands) ∧
    (t.sp ≠ s.sp → i.asm.mnemonic = .call ∨ i.asm.mnemonic = .ret) ∧
    ∀ a : Word, t.peek a ≠ s.peek a → i.asm.mnemonic = .call ∧ (a = t.sp ∨ a = t.sp + 1)

/-- R421, R422, R423. -/
def Obligations.CarryControl : Prop :=
  ∀ s : State,
    exec .clc s = .next { s with flags := { s.flags with carry := false }, ip := s.ip + 1 } ∧
    exec .cmc s = .next { s with flags := { s.flags with carry := !s.flags.carry }, ip := s.ip + 1 } ∧
    exec .stc s = .next { s with flags := { s.flags with carry := true }, ip := s.ip + 1 }

/-- R424 and R512 (the spec's decision D13); the stuck state's name is the model's (notes/assumptions/6.md). -/
def Obligations.HaltStops : Prop :=
  ∀ s : State, exec .halt s = .next { s with halted := true, ip := s.ip + 1 } ∧
    ∀ t : State, exec .halt s = .next t → step t = .fault .halted

/-- R425. -/
def Obligations.NopOnlyAdvances : Prop :=
  ∀ s : State, exec .nop s = .next { s with ip := s.ip + 1 }

/-- The cycle of R14, R15, R75 under every value of the parameters of R3. -/
def Obligations.StepUnderAnyConfiguration : Prop :=
  ∀ (cfg : Config) (s : State) (bs : List Byte) (i : Instr), s.halted = false → decodeWith cfg bs = .ok i →
    (∀ k < (encodeWith cfg i).length, cfg.memMap (s.ip + BitVec.ofNat 16 k) = true ∧
      s.peek (s.ip + BitVec.ofNat 16 k) = bs[k]?) → stepWith cfg s = execWith cfg i s

/-- R70 keeps the map a parameter, and the spec's decision D1 says that any bijection gives the same machine up to renaming of
opcode bytes. -/
def Obligations.OpcodeMapOnlyRenames : Prop :=
  ∀ (cfg : Config) (m : OpcodeMap) (i : Instr) (s : State), s.halted = false → i.encodable cfg = true →
    (∀ k < (encodeWith { cfg with opcodeMap := m } i).length, cfg.memMap (s.ip + BitVec.ofNat 16 k) = true ∧
      s.peek (s.ip + BitVec.ofNat 16 k) = (encodeWith { cfg with opcodeMap := m } i)[k]?) →
    stepWith { cfg with opcodeMap := m } s = execWith cfg i s
end

