-- ==== Sys2Proof/Laws/AnyConfig.lean ====
section
/-! SUPPORT. The machine of the host's interface is the machine of any configuration at the configuration of the spec. -/

namespace Sys2Proof.Machine

theorem execWith_spec (i : Instr) (s : State) : execWith Config.spec i s = exec i s := by
  cases i <;> rfl

theorem stepWith_spec (s : State) : stepWith Config.spec s = step s := by
  simp only [stepWith, step, cycle, execWith_spec]

end Sys2Proof.Machine
end

