-- ==== Sys2Proof/Laws/Bits.lean ====
section
/-! SUPPORT. The fields of the configuration of the spec, and the halves of a 16-bit value. -/

namespace Sys2Proof

@[simp] theorem Config.spec_opcodeMap : Config.spec.opcodeMap = Config.provisionalOpcodes := rfl
@[simp] theorem Config.spec_operandLayout : Config.spec.operandLayout = .addressFirst := rfl
@[simp] theorem Config.spec_byteOrder : Config.spec.byteOrder = .bigEndian := rfl
@[simp] theorem Config.spec_addrForms : Config.spec.addrForms = Config.fiveForms := rfl
@[simp] theorem Config.spec_dispWidth : Config.spec.dispWidth = .bits16 := rfl
@[simp] theorem Config.spec_stackDiscipline : Config.spec.stackDiscipline = { direction := .towardLower, holds := .lastPushed } := rfl
@[simp] theorem Config.spec_flagLayout : Config.spec.flagLayout = { sign := 4, parity := 3, overflow := 2, carry := 1, zero := 0 } := rfl
@[simp] theorem Config.spec_flagPolicy : Config.spec.flagPolicy = Config.family8086Flags := rfl
@[simp] theorem Config.spec_paritySense : Config.spec.paritySense = .even := rfl
@[simp] theorem Config.spec_rotateKind : Config.spec.rotateKind = .operandAlone := rfl
@[simp] theorem Config.spec_divFault : Config.spec.divFault = .divideError := rfl
@[simp] theorem Config.spec_relBase : Config.spec.relBase = .nextInstruction := rfl
@[simp] theorem Config.spec_ioModel : Config.spec.ioModel = { emptyInput := .freeByte Config.freeInput, outputUse := .traced } := rfl
@[simp] theorem Config.spec_haltPc : Config.spec.haltPc = .afterOpcode := rfl
@[simp] theorem Config.spec_resetPc : Config.spec.resetPc = 0x0000 := rfl
@[simp] theorem Config.spec_resetState : Config.spec.resetState = Config.resetZero := rfl
@[simp] theorem Config.spec_memMap (a : Word) : Config.spec.memMap a = true := rfl
@[simp] theorem Config.provisionalOpcodes_apply (b : Byte) : Config.provisionalOpcodes b = b := rfl

@[simp] theorem firstByte_spec (v : Word) : firstByte .spec v = hiByte v := rfl
@[simp] theorem secondByte_spec (v : Word) : secondByte .spec v = loByte v := rfl
@[simp] theorem joinBytes_spec (x y : Byte) : joinBytes .spec x y = x ++ y := rfl
@[simp] theorem displacementBytes_spec (v : Word) : displacementBytes .spec v = [hiByte v, loByte v] := rfl
@[simp] theorem indexedLength_spec : indexedLength .spec = 3 := rfl

@[simp] theorem hiByte_append (x y : Byte) : hiByte (x ++ y) = x := by
  unfold hiByte
  ext i h
  simp only [BitVec.getElem_extractLsb', BitVec.getLsbD_append]
  simp [h]

@[simp] theorem loByte_append (x y : Byte) : loByte (x ++ y) = y := by
  unfold loByte
  ext i h
  simp only [BitVec.getElem_extractLsb', BitVec.getLsbD_append]
  simp [h]

@[simp] theorem hiByte_append_loByte (v : Word) : hiByte v ++ loByte v = v := by
  unfold hiByte loByte
  ext i h
  simp only [BitVec.getElem_append, BitVec.getElem_extractLsb']
  split
  · simp [h]
  · rw [show 8 + (i - 8) = i by omega]
    simp [h]

/-- Whatever the byte order, the two bytes of a value give it back. -/
@[simp] theorem joinBytes_firstByte_secondByte (cfg : Config) (v : Word) : joinBytes cfg (firstByte cfg v) (secondByte cfg v) = v := by
  unfold joinBytes firstByte secondByte
  cases cfg.byteOrder <;> simp

/-- Whatever the byte order, the two bytes a value was made of are its two bytes. -/
@[simp] theorem firstByte_joinBytes (cfg : Config) (x y : Byte) : firstByte cfg (joinBytes cfg x y) = x := by
  unfold joinBytes firstByte
  cases cfg.byteOrder <;> simp

@[simp] theorem secondByte_joinBytes (cfg : Config) (x y : Byte) : secondByte cfg (joinBytes cfg x y) = y := by
  unfold joinBytes secondByte
  cases cfg.byteOrder <;> simp

theorem hiByte_toNat (v : Word) : (hiByte v).toNat = v.toNat / 256 := by
  simp only [hiByte, BitVec.extractLsb'_toNat, Nat.shiftRight_eq_div_pow]
  have := v.isLt
  omega

theorem loByte_toNat (v : Word) : (loByte v).toNat = v.toNat % 256 := by
  simp [loByte, BitVec.extractLsb'_toNat]

theorem hiByte_eq_ofNat (v : Word) : hiByte v = BitVec.ofNat 8 (v.toNat / 256) := by
  apply BitVec.eq_of_toNat_eq
  rw [hiByte_toNat, BitVec.toNat_ofNat]
  have := v.isLt
  omega

theorem loByte_eq_ofNat (v : Word) : loByte v = BitVec.ofNat 8 v.toNat := by
  apply BitVec.eq_of_toNat_eq
  rw [loByte_toNat, BitVec.toNat_ofNat]

theorem append_toNat (x y : Byte) : (x ++ y).toNat = 256 * x.toNat + y.toNat := by
  rw [BitVec.toNat_append, ← Nat.shiftLeft_add_eq_or_of_lt y.isLt, Nat.shiftLeft_eq]
  omega

/-- An extended byte narrows to itself. -/
@[simp] theorem loByte_sext16 (v : Byte) : loByte (sext16 v) = v := by
  revert v
  decide

@[simp] theorem loByte_setWidth (v : Byte) : loByte (v.setWidth 16) = v := by
  revert v
  decide

theorem sext16_toInt (v : Byte) : (sext16 v).toInt = v.toInt := by
  unfold sext16
  rw [BitVec.toInt_signExtend_of_le]
  decide

end Sys2Proof
end

