-- ==== Sys2Proof/Laws/Memory.lean ====
section
/-! SUPPORT. The laws of memory: a read after a write, and the canonical form. -/

namespace Sys2Proof.Machine

/-- A write gives its position the value and leaves every other position alone. -/
theorem Memory.get?_put (m : Memory) (a b : Nat) (v : Byte) :
    Memory.get? (Memory.put m a v) b = if b = a then some v else Memory.get? m b := by
  induction m with
  | nil => simp only [Memory.put, Memory.get?]
  | cons x rest ih =>
    obtain ⟨k, w⟩ := x
    by_cases h : a < k
    · simp only [Memory.put, if_pos h, Memory.get?]
    · by_cases h' : a = k
      · subst h'
        simp only [Memory.put, if_neg h, if_true, Memory.get?]
        split <;> rfl
      · simp only [Memory.put, if_neg h, if_neg h', Memory.get?, ih]
        by_cases hk : b = k
        · rw [if_pos hk, if_pos hk, if_neg (by omega)]
        · rw [if_neg hk, if_neg hk]

/-- Every address of a memory after a write is the written one or an address from before. -/
theorem Memory.mem_put (m : Memory) (a : Nat) (v : Byte) (x : Host.Cell) (h : x ∈ Memory.put m a v) :
    x.1 = a ∨ x ∈ m := by
  induction m with
  | nil => simp only [Memory.put, List.mem_singleton] at h; exact .inl (by rw [h])
  | cons y rest ih =>
    obtain ⟨k, w⟩ := y
    simp only [Memory.put] at h
    split at h
    · rcases List.mem_cons.1 h with h | h
      · exact .inl (by rw [h])
      · exact .inr h
    · split at h
      · rcases List.mem_cons.1 h with h | h
        · exact .inl (by rw [h])
        · exact .inr (List.mem_cons_of_mem _ h)
      · rcases List.mem_cons.1 h with h | h
        · exact .inr (by rw [h]; exact List.mem_cons_self ..)
        · exact (ih h).imp_right (List.mem_cons_of_mem _)

/-- A write keeps the canonical form. -/
theorem Memory.put_wf (m : Memory) (a : Nat) (v : Byte) (ha : a < 65536) (h : m.wf) : (Memory.put m a v).wf := by
  obtain ⟨hs, hb⟩ := h
  constructor
  · induction m with
    | nil => exact List.pairwise_singleton ..
    | cons y rest ih =>
      obtain ⟨k, w⟩ := y
      obtain ⟨hk, hr⟩ := List.pairwise_cons.1 hs
      simp only [Memory.put]
      split
      · rename_i hlt
        refine List.pairwise_cons.2 ⟨fun x hx => ?_, hs⟩
        rcases List.mem_cons.1 hx with hx | hx
        · rw [hx]; exact hlt
        · exact Nat.lt_trans hlt (hk x hx)
      · split
        · rename_i heq
          exact List.pairwise_cons.2 ⟨fun x hx => heq ▸ hk x hx, hr⟩
        · rename_i hge hne
          refine List.pairwise_cons.2 ⟨fun x hx => ?_, ih hr fun x hx => hb x (List.mem_cons_of_mem _ hx)⟩
          rcases Memory.mem_put rest a v x hx with hx | hx
          · simp only [hx]; omega
          · exact hk x hx
  · intro x hx
    rcases Memory.mem_put m a v x hx with hx | hx
    · rw [hx]; exact ha
    · exact hb x hx

/-- The empty memory is in its canonical form. -/
theorem Memory.nil_wf : Memory.wf [] := ⟨List.Pairwise.nil, fun _ hx => absurd hx (List.not_mem_nil)⟩

/-- Storing bytes keeps the canonical form. -/
theorem Memory.putBytes_wf (bs : List Byte) (m : Memory) (a : Word) (h : m.wf) : (Memory.putBytes m a bs).wf := by
  induction bs generalizing m a with
  | nil => exact h
  | cons v rest ih => exact ih _ _ (Memory.put_wf m _ v a.isLt h)

/-- The same, with addresses as words. -/
theorem Memory.get?_put_word (m : Memory) (a x : Word) (v : Byte) :
    Memory.get? (Memory.put m a.toNat v) x.toNat = if x = a then some v else Memory.get? m x.toNat := by
  simp only [Memory.get?_put, BitVec.toNat_inj]

/-- Reading one byte after two bytes were written. -/
theorem State.peek_put_put (s : State) (a b x : Word) (v w : Byte) :
    (s.setMem (Memory.put (Memory.put s.mem a.toNat v) b.toNat w)).peek x =
      if x = b then some w else if x = a then some v else s.peek x := by
  simp only [State.peek, State.setMem, Memory.get?_put_word]

/-- Reading one byte after one byte was written. -/
theorem State.peek_put (s : State) (a x : Word) (v : Byte) :
    (s.setMem (Memory.put s.mem a.toNat v)).peek x = if x = a then some v else s.peek x := by
  simp only [State.peek, State.setMem, Memory.get?_put, BitVec.toNat_inj]

end Sys2Proof.Machine
end

