-- ==== Sys2Proof/Laws/State.lean ====
section
/-! SUPPORT. What each named update of the state leaves in each field, so that no proof unfolds a record update. -/

namespace Sys2Proof.Machine

/-! ### Registers -/

@[simp] theorem State.reg_A (s : State) : s.reg .A = s.a := rfl
@[simp] theorem State.reg_B (s : State) : s.reg .B = s.b := rfl
@[simp] theorem State.reg_C (s : State) : s.reg .C = s.c := rfl
@[simp] theorem State.reg_D (s : State) : s.reg .D = s.d := rfl
theorem State.pair_AB (s : State) : s.pair .AB = s.a ++ s.b := rfl
theorem State.pair_CD (s : State) : s.pair .CD = s.c ++ s.d := rfl
@[simp] theorem State.setReg_A (s : State) (v : Byte) : s.setReg .A v = { s with a := v } := rfl
@[simp] theorem State.setReg_B (s : State) (v : Byte) : s.setReg .B v = { s with b := v } := rfl
@[simp] theorem State.setReg_C (s : State) (v : Byte) : s.setReg .C v = { s with c := v } := rfl
@[simp] theorem State.setReg_D (s : State) (v : Byte) : s.setReg .D v = { s with d := v } := rfl
theorem State.setPair_AB (s : State) (v : Word) : s.setPair .AB v = { s with a := hiByte v, b := loByte v } := rfl
theorem State.setPair_CD (s : State) (v : Word) : s.setPair .CD v = { s with c := hiByte v, d := loByte v } := rfl

theorem State.reg_setReg (s : State) (r q : Reg) (v : Byte) : (s.setReg r v).reg q = if q = r then v else s.reg q := by
  cases r <;> cases q <;> rfl

@[simp] theorem State.setReg_sp (s : State) (r : Reg) (v : Byte) : (s.setReg r v).sp = s.sp := by cases r <;> rfl
@[simp] theorem State.setReg_ip (s : State) (r : Reg) (v : Byte) : (s.setReg r v).ip = s.ip := by cases r <;> rfl
@[simp] theorem State.setReg_flags (s : State) (r : Reg) (v : Byte) : (s.setReg r v).flags = s.flags := by cases r <;> rfl
@[simp] theorem State.setReg_mem (s : State) (r : Reg) (v : Byte) : (s.setReg r v).mem = s.mem := by cases r <;> rfl
@[simp] theorem State.setReg_input (s : State) (r : Reg) (v : Byte) : (s.setReg r v).input = s.input := by cases r <;> rfl
@[simp] theorem State.setReg_output (s : State) (r : Reg) (v : Byte) : (s.setReg r v).output = s.output := by cases r <;> rfl
@[simp] theorem State.setReg_halted (s : State) (r : Reg) (v : Byte) : (s.setReg r v).halted = s.halted := by cases r <;> rfl
@[simp] theorem State.setReg_flagDraws (s : State) (r : Reg) (v : Byte) : (s.setReg r v).flagDraws = s.flagDraws := by cases r <;> rfl
@[simp] theorem State.setReg_inputDraws (s : State) (r : Reg) (v : Byte) : (s.setReg r v).inputDraws = s.inputDraws := by cases r <;> rfl
@[simp] theorem State.setPair_sp (s : State) (p : Pair) (v : Word) : (s.setPair p v).sp = s.sp := by cases p <;> rfl
@[simp] theorem State.setPair_ip (s : State) (p : Pair) (v : Word) : (s.setPair p v).ip = s.ip := by cases p <;> rfl
@[simp] theorem State.setPair_flags (s : State) (p : Pair) (v : Word) : (s.setPair p v).flags = s.flags := by cases p <;> rfl
@[simp] theorem State.setPair_mem (s : State) (p : Pair) (v : Word) : (s.setPair p v).mem = s.mem := by cases p <;> rfl
@[simp] theorem State.setPair_input (s : State) (p : Pair) (v : Word) : (s.setPair p v).input = s.input := by cases p <;> rfl
@[simp] theorem State.setPair_output (s : State) (p : Pair) (v : Word) : (s.setPair p v).output = s.output := by cases p <;> rfl
@[simp] theorem State.setPair_halted (s : State) (p : Pair) (v : Word) : (s.setPair p v).halted = s.halted := by cases p <;> rfl
@[simp] theorem State.setPair_flagDraws (s : State) (p : Pair) (v : Word) : (s.setPair p v).flagDraws = s.flagDraws := by cases p <;> rfl
@[simp] theorem State.setPair_inputDraws (s : State) (p : Pair) (v : Word) : (s.setPair p v).inputDraws = s.inputDraws := by cases p <;> rfl

/-! ### `setSp` -/

@[simp] theorem State.setSp_a (s : State) (v : Word) : (s.setSp v).a = s.a := rfl
@[simp] theorem State.setSp_b (s : State) (v : Word) : (s.setSp v).b = s.b := rfl
@[simp] theorem State.setSp_c (s : State) (v : Word) : (s.setSp v).c = s.c := rfl
@[simp] theorem State.setSp_d (s : State) (v : Word) : (s.setSp v).d = s.d := rfl
@[simp] theorem State.setSp_sp (s : State) (v : Word) : (s.setSp v).sp = v := rfl
@[simp] theorem State.setSp_ip (s : State) (v : Word) : (s.setSp v).ip = s.ip := rfl
@[simp] theorem State.setSp_flags (s : State) (v : Word) : (s.setSp v).flags = s.flags := rfl
@[simp] theorem State.setSp_mem (s : State) (v : Word) : (s.setSp v).mem = s.mem := rfl
@[simp] theorem State.setSp_input (s : State) (v : Word) : (s.setSp v).input = s.input := rfl
@[simp] theorem State.setSp_output (s : State) (v : Word) : (s.setSp v).output = s.output := rfl
@[simp] theorem State.setSp_halted (s : State) (v : Word) : (s.setSp v).halted = s.halted := rfl
@[simp] theorem State.setSp_flagDraws (s : State) (v : Word) : (s.setSp v).flagDraws = s.flagDraws := rfl
@[simp] theorem State.setSp_inputDraws (s : State) (v : Word) : (s.setSp v).inputDraws = s.inputDraws := rfl
@[simp] theorem State.setSp_reg (s : State) (v : Word) (r : Reg) : (s.setSp v).reg r = s.reg r := by cases r <;> rfl
@[simp] theorem State.setSp_pair (s : State) (v : Word) (p : Pair) : (s.setSp v).pair p = s.pair p := by cases p <;> rfl
@[simp] theorem State.setSp_peek (s : State) (v : Word) (x : Word) : (s.setSp v).peek x = s.peek x := rfl

/-! ### `setIp` -/

@[simp] theorem State.setIp_a (s : State) (v : Word) : (s.setIp v).a = s.a := rfl
@[simp] theorem State.setIp_b (s : State) (v : Word) : (s.setIp v).b = s.b := rfl
@[simp] theorem State.setIp_c (s : State) (v : Word) : (s.setIp v).c = s.c := rfl
@[simp] theorem State.setIp_d (s : State) (v : Word) : (s.setIp v).d = s.d := rfl
@[simp] theorem State.setIp_sp (s : State) (v : Word) : (s.setIp v).sp = s.sp := rfl
@[simp] theorem State.setIp_ip (s : State) (v : Word) : (s.setIp v).ip = v := rfl
@[simp] theorem State.setIp_flags (s : State) (v : Word) : (s.setIp v).flags = s.flags := rfl
@[simp] theorem State.setIp_mem (s : State) (v : Word) : (s.setIp v).mem = s.mem := rfl
@[simp] theorem State.setIp_input (s : State) (v : Word) : (s.setIp v).input = s.input := rfl
@[simp] theorem State.setIp_output (s : State) (v : Word) : (s.setIp v).output = s.output := rfl
@[simp] theorem State.setIp_halted (s : State) (v : Word) : (s.setIp v).halted = s.halted := rfl
@[simp] theorem State.setIp_flagDraws (s : State) (v : Word) : (s.setIp v).flagDraws = s.flagDraws := rfl
@[simp] theorem State.setIp_inputDraws (s : State) (v : Word) : (s.setIp v).inputDraws = s.inputDraws := rfl
@[simp] theorem State.setIp_reg (s : State) (v : Word) (r : Reg) : (s.setIp v).reg r = s.reg r := by cases r <;> rfl
@[simp] theorem State.setIp_pair (s : State) (v : Word) (p : Pair) : (s.setIp v).pair p = s.pair p := by cases p <;> rfl
@[simp] theorem State.setIp_peek (s : State) (v : Word) (x : Word) : (s.setIp v).peek x = s.peek x := rfl

/-! ### `setFlags` -/

@[simp] theorem State.setFlags_a (s : State) (v : Flags) : (s.setFlags v).a = s.a := rfl
@[simp] theorem State.setFlags_b (s : State) (v : Flags) : (s.setFlags v).b = s.b := rfl
@[simp] theorem State.setFlags_c (s : State) (v : Flags) : (s.setFlags v).c = s.c := rfl
@[simp] theorem State.setFlags_d (s : State) (v : Flags) : (s.setFlags v).d = s.d := rfl
@[simp] theorem State.setFlags_sp (s : State) (v : Flags) : (s.setFlags v).sp = s.sp := rfl
@[simp] theorem State.setFlags_ip (s : State) (v : Flags) : (s.setFlags v).ip = s.ip := rfl
@[simp] theorem State.setFlags_flags (s : State) (v : Flags) : (s.setFlags v).flags = v := rfl
@[simp] theorem State.setFlags_mem (s : State) (v : Flags) : (s.setFlags v).mem = s.mem := rfl
@[simp] theorem State.setFlags_input (s : State) (v : Flags) : (s.setFlags v).input = s.input := rfl
@[simp] theorem State.setFlags_output (s : State) (v : Flags) : (s.setFlags v).output = s.output := rfl
@[simp] theorem State.setFlags_halted (s : State) (v : Flags) : (s.setFlags v).halted = s.halted := rfl
@[simp] theorem State.setFlags_flagDraws (s : State) (v : Flags) : (s.setFlags v).flagDraws = s.flagDraws := rfl
@[simp] theorem State.setFlags_inputDraws (s : State) (v : Flags) : (s.setFlags v).inputDraws = s.inputDraws := rfl
@[simp] theorem State.setFlags_reg (s : State) (v : Flags) (r : Reg) : (s.setFlags v).reg r = s.reg r := by cases r <;> rfl
@[simp] theorem State.setFlags_pair (s : State) (v : Flags) (p : Pair) : (s.setFlags v).pair p = s.pair p := by cases p <;> rfl
@[simp] theorem State.setFlags_peek (s : State) (v : Flags) (x : Word) : (s.setFlags v).peek x = s.peek x := rfl

/-! ### `writeFlags` -/

@[simp] theorem State.writeFlags_a (cfg : Config) (row : FlagRow) (f : Flags) (s : State) : (s.writeFlags cfg row f).a = s.a := rfl
@[simp] theorem State.writeFlags_b (cfg : Config) (row : FlagRow) (f : Flags) (s : State) : (s.writeFlags cfg row f).b = s.b := rfl
@[simp] theorem State.writeFlags_c (cfg : Config) (row : FlagRow) (f : Flags) (s : State) : (s.writeFlags cfg row f).c = s.c := rfl
@[simp] theorem State.writeFlags_d (cfg : Config) (row : FlagRow) (f : Flags) (s : State) : (s.writeFlags cfg row f).d = s.d := rfl
@[simp] theorem State.writeFlags_sp (cfg : Config) (row : FlagRow) (f : Flags) (s : State) : (s.writeFlags cfg row f).sp = s.sp := rfl
@[simp] theorem State.writeFlags_ip (cfg : Config) (row : FlagRow) (f : Flags) (s : State) : (s.writeFlags cfg row f).ip = s.ip := rfl
@[simp] theorem State.writeFlags_mem (cfg : Config) (row : FlagRow) (f : Flags) (s : State) : (s.writeFlags cfg row f).mem = s.mem := rfl
@[simp] theorem State.writeFlags_input (cfg : Config) (row : FlagRow) (f : Flags) (s : State) : (s.writeFlags cfg row f).input = s.input := rfl
@[simp] theorem State.writeFlags_output (cfg : Config) (row : FlagRow) (f : Flags) (s : State) : (s.writeFlags cfg row f).output = s.output := rfl
@[simp] theorem State.writeFlags_halted (cfg : Config) (row : FlagRow) (f : Flags) (s : State) : (s.writeFlags cfg row f).halted = s.halted := rfl
@[simp] theorem State.writeFlags_inputDraws (cfg : Config) (row : FlagRow) (f : Flags) (s : State) : (s.writeFlags cfg row f).inputDraws = s.inputDraws := rfl
@[simp] theorem State.writeFlags_reg (cfg : Config) (row : FlagRow) (f : Flags) (s : State) (r : Reg) :
    (s.writeFlags cfg row f).reg r = s.reg r := by cases r <;> rfl
@[simp] theorem State.writeFlags_pair (cfg : Config) (row : FlagRow) (f : Flags) (s : State) (p : Pair) :
    (s.writeFlags cfg row f).pair p = s.pair p := by cases p <;> rfl
@[simp] theorem State.writeFlags_peek (cfg : Config) (row : FlagRow) (f : Flags) (s : State) (x : Word) :
    (s.writeFlags cfg row f).peek x = s.peek x := rfl

/-! ### `setMem` -/

@[simp] theorem State.setMem_a (s : State) (v : Memory) : (s.setMem v).a = s.a := rfl
@[simp] theorem State.setMem_b (s : State) (v : Memory) : (s.setMem v).b = s.b := rfl
@[simp] theorem State.setMem_c (s : State) (v : Memory) : (s.setMem v).c = s.c := rfl
@[simp] theorem State.setMem_d (s : State) (v : Memory) : (s.setMem v).d = s.d := rfl
@[simp] theorem State.setMem_sp (s : State) (v : Memory) : (s.setMem v).sp = s.sp := rfl
@[simp] theorem State.setMem_ip (s : State) (v : Memory) : (s.setMem v).ip = s.ip := rfl
@[simp] theorem State.setMem_flags (s : State) (v : Memory) : (s.setMem v).flags = s.flags := rfl
@[simp] theorem State.setMem_mem (s : State) (v : Memory) : (s.setMem v).mem = v := rfl
@[simp] theorem State.setMem_input (s : State) (v : Memory) : (s.setMem v).input = s.input := rfl
@[simp] theorem State.setMem_output (s : State) (v : Memory) : (s.setMem v).output = s.output := rfl
@[simp] theorem State.setMem_halted (s : State) (v : Memory) : (s.setMem v).halted = s.halted := rfl
@[simp] theorem State.setMem_flagDraws (s : State) (v : Memory) : (s.setMem v).flagDraws = s.flagDraws := rfl
@[simp] theorem State.setMem_inputDraws (s : State) (v : Memory) : (s.setMem v).inputDraws = s.inputDraws := rfl
@[simp] theorem State.setMem_reg (s : State) (v : Memory) (r : Reg) : (s.setMem v).reg r = s.reg r := by cases r <;> rfl
@[simp] theorem State.setMem_pair (s : State) (v : Memory) (p : Pair) : (s.setMem v).pair p = s.pair p := by cases p <;> rfl

/-! ### `advance` -/

@[simp] theorem advance_a (s : State) (len : Word) : (advance len s).a = s.a := rfl
@[simp] theorem advance_b (s : State) (len : Word) : (advance len s).b = s.b := rfl
@[simp] theorem advance_c (s : State) (len : Word) : (advance len s).c = s.c := rfl
@[simp] theorem advance_d (s : State) (len : Word) : (advance len s).d = s.d := rfl
@[simp] theorem advance_sp (s : State) (len : Word) : (advance len s).sp = s.sp := rfl
@[simp] theorem advance_ip (s : State) (len : Word) : (advance len s).ip = s.ip + len := rfl
@[simp] theorem advance_flags (s : State) (len : Word) : (advance len s).flags = s.flags := rfl
@[simp] theorem advance_mem (s : State) (len : Word) : (advance len s).mem = s.mem := rfl
@[simp] theorem advance_input (s : State) (len : Word) : (advance len s).input = s.input := rfl
@[simp] theorem advance_output (s : State) (len : Word) : (advance len s).output = s.output := rfl
@[simp] theorem advance_halted (s : State) (len : Word) : (advance len s).halted = s.halted := rfl
@[simp] theorem advance_flagDraws (s : State) (len : Word) : (advance len s).flagDraws = s.flagDraws := rfl
@[simp] theorem advance_inputDraws (s : State) (len : Word) : (advance len s).inputDraws = s.inputDraws := rfl
@[simp] theorem advance_reg (s : State) (len : Word) (r : Reg) : (advance len s).reg r = s.reg r := by cases r <;> rfl
@[simp] theorem advance_pair (s : State) (len : Word) (p : Pair) : (advance len s).pair p = s.pair p := by cases p <;> rfl
@[simp] theorem advance_peek (s : State) (len : Word) (x : Word) : (advance len s).peek x = s.peek x := rfl
@[simp] theorem State.setReg_peek (s : State) (r : Reg) (v : Byte) (x : Word) : (s.setReg r v).peek x = s.peek x := by cases r <;> rfl
@[simp] theorem State.setPair_peek (s : State) (p : Pair) (v : Word) (x : Word) : (s.setPair p v).peek x = s.peek x := by cases p <;> rfl

end Sys2Proof.Machine
end

