-- ==== Sys2Proof/Laws/Ops.lean ====
section
/-! SUPPORT. For each shared operation, once, everything it can do: cite these instead of unfolding it. -/

namespace Sys2Proof.Machine

/-! ### Sequencing -/

@[simp] theorem andThen_next {α β : Type} (x : α) (k : α → Res β) : andThen (.next x) k = k x := rfl
@[simp] theorem andThen_fault {α β : Type} (f : Fault) (k : α → Res β) : andThen (.fault f) k = .fault f := rfl
@[simp] theorem andThen_refused {α β : Type} (q : Refusal) (k : α → Res β) : andThen (.refused q) k = .refused q := rfl

theorem andThen_eq_next {α β : Type} {r : Res α} {k : α → Res β} {y : β} :
    andThen r k = .next y ↔ ∃ x, r = .next x ∧ k x = .next y := by
  cases r <;> simp

theorem andThen_eq_fault {α β : Type} {r : Res α} {k : α → Res β} {f : Fault} :
    andThen r k = .fault f ↔ r = .fault f ∨ ∃ x, r = .next x ∧ k x = .fault f := by
  cases r <;> simp

theorem andThen_eq_refused {α β : Type} {r : Res α} {k : α → Res β} {q : Refusal} :
    andThen r k = .refused q ↔ r = .refused q ∨ ∃ x, r = .next x ∧ k x = .refused q := by
  cases r <;> simp

/-! ### Memory accesses -/

/-- A read of one byte: the value the position holds, or the fault that it holds none. -/
theorem readByte_eq (a : Word) (s : State) :
    readByte .spec a s = match s.peek a with
      | some v => .next v
      | none => .fault (.unspecifiedRead a) := by
  cases h : s.peek a <;> simp [readByte, h, raise]

theorem readByte_of_peek {a : Word} {s : State} {v : Byte} (h : s.peek a = some v) : readByte .spec a s = .next v := by
  rw [readByte_eq, h]

theorem readByte_eq_next {a : Word} {s : State} {v : Byte} : readByte .spec a s = .next v ↔ s.peek a = some v := by
  cases h : s.peek a <;> simp [readByte_eq, h]

theorem readByte_eq_fault {a : Word} {s : State} {f : Fault} :
    readByte .spec a s = .fault f ↔ f = .unspecifiedRead a ∧ s.peek a = none := by
  cases h : s.peek a <;> simp [readByte_eq, h, eq_comm]

@[simp] theorem readByte_ne_refused {a : Word} {s : State} {q : Refusal} : readByte .spec a s ≠ .refused q := by
  cases h : s.peek a <;> simp [readByte_eq, h]

/-- A write of one byte always completes. -/
theorem writeByte_eq (a : Word) (v : Byte) (s : State) :
    writeByte .spec a v s = .next (s.setMem (Memory.put s.mem a.toNat v)) := rfl

/-- A write of two bytes: the high byte at the address, the low byte at the next one. -/
theorem writeWord_eq (a : Word) (v : Word) (s : State) :
    writeWord .spec a v s =
      .next (s.setMem (Memory.put (Memory.put s.mem a.toNat (hiByte v)) (a + 1).toNat (loByte v))) := rfl

/-- A read of two bytes: the high byte from the address, the low byte from the next one. -/
theorem readWord_of_peek {a : Word} {s : State} {x y : Byte} (hx : s.peek a = some x) (hy : s.peek (a + 1) = some y) :
    readWord .spec a s = .next (x ++ y) := by
  simp only [readWord, readByte_of_peek hx, readByte_of_peek hy, andThen_next, joinBytes_spec]

theorem readWord_eq_next {a : Word} {s : State} {v : Word} :
    readWord .spec a s = .next v ↔ ∃ x y, s.peek a = some x ∧ s.peek (a + 1) = some y ∧ v = x ++ y := by
  simp only [readWord, andThen_eq_next, readByte_eq_next, joinBytes_spec, Host.Outcome.next.injEq]
  constructor
  · rintro ⟨x, hx, y, hy, rfl⟩; exact ⟨x, y, hx, hy, rfl⟩
  · rintro ⟨x, y, hx, hy, rfl⟩; exact ⟨x, hx, y, hy, rfl⟩

theorem readWord_eq_fault {a : Word} {s : State} {f : Fault} (h : readWord .spec a s = .fault f) :
    ∃ x, f = .unspecifiedRead x ∧ s.peek x = none := by
  simp only [readWord, andThen_eq_fault, readByte_eq_fault, reduceCtorEq, and_false, exists_false, or_false] at h
  rcases h with h | ⟨_, _, h⟩
  · exact ⟨a, h⟩
  · exact ⟨a + 1, h⟩

@[simp] theorem readWord_ne_refused {a : Word} {s : State} {q : Refusal} : readWord .spec a s ≠ .refused q := by
  simp [readWord, andThen_eq_refused]

/-! ### The stack -/

@[simp] theorem pushSlot_eq (n sp : Word) : pushSlot .spec n sp = (sp - n, sp - n) := rfl
@[simp] theorem popSlot_eq (n sp : Word) : popSlot .spec n sp = (sp, sp + n) := rfl

/-- A push of one byte always completes. -/
theorem pushByte_eq (v : Byte) (s : State) :
    pushByte .spec v s = .next ((s.setSp (s.sp - 1)).setMem (Memory.put s.mem (s.sp - 1).toNat v)) := rfl

/-- A push of two bytes always completes: the high byte lies at the new `SP`. -/
theorem pushWord_eq (v : Word) (s : State) :
    pushWord .spec v s = .next ((s.setSp (s.sp - 2)).setMem
      (Memory.put (Memory.put s.mem (s.sp - 2).toNat (hiByte v)) (s.sp - 2 + 1).toNat (loByte v))) := rfl

theorem popByte_eq_next {s t : State} {v : Byte} :
    popByte .spec s = .next (v, t) ↔ s.peek s.sp = some v ∧ t = s.setSp (s.sp + 1) := by
  simp only [popByte, popSlot_eq, andThen_eq_next, readByte_eq_next, Host.Outcome.next.injEq, Prod.mk.injEq]
  constructor
  · rintro ⟨x, hx, rfl, rfl⟩; exact ⟨hx, rfl⟩
  · rintro ⟨hx, rfl⟩; exact ⟨v, hx, rfl, rfl⟩

theorem popWord_eq_next {s t : State} {v : Word} :
    popWord .spec s = .next (v, t) ↔ readWord .spec s.sp s = .next v ∧ t = s.setSp (s.sp + 2) := by
  simp only [popWord, popSlot_eq, andThen_eq_next, Host.Outcome.next.injEq, Prod.mk.injEq]
  constructor
  · rintro ⟨x, hx, rfl, rfl⟩; exact ⟨hx, rfl⟩
  · rintro ⟨hx, rfl⟩; exact ⟨v, hx, rfl, rfl⟩

/-! ### Branches -/

@[simp] theorem relTarget_eq (len : Word) (offset : Byte) (s : State) :
    relTarget .spec len offset s = s.ip + len + sext16 offset := rfl

/-- A relative branch always completes. -/
theorem branchRel_eq (taken : Bool) (len : Word) (offset : Byte) (s : State) :
    branchRel .spec taken len offset s =
      .next { s with ip := if taken then s.ip + len + sext16 offset else s.ip + len } := by
  cases taken <;> rfl

/-- `HALT` always completes. -/
theorem haltMachine_eq (len : Word) (s : State) :
    haltMachine .spec len s = .next { s with halted := true, ip := s.ip + len } := rfl

/-! ### Operands -/

/-- A write to an 8-bit location always completes, and moves neither `IP` nor the peripheral. -/
theorem writeLoc8_next (l : Loc8) (v : Byte) (s : State) : ∃ t, writeLoc8 .spec l v s = .next t ∧
    t.ip = s.ip ∧ t.sp = s.sp ∧ t.input = s.input ∧ t.output = s.output ∧ t.halted = s.halted ∧
    t.flagDraws = s.flagDraws ∧ t.inputDraws = s.inputDraws := by
  cases l with
  | reg r => exact ⟨_, rfl, by simp⟩
  | flags => exact ⟨_, rfl, by simp⟩
  | mem m => exact ⟨_, rfl, by simp⟩

/-- A write to a 16-bit location always completes, and moves neither `IP` nor the peripheral. -/
theorem writeLoc16_next (l : Loc16) (v : Word) (s : State) : ∃ t, writeLoc16 .spec l v s = .next t ∧
    t.ip = s.ip ∧ t.flags = s.flags ∧ t.input = s.input ∧ t.output = s.output ∧ t.halted = s.halted ∧
    t.flagDraws = s.flagDraws ∧ t.inputDraws = s.inputDraws := by
  cases l with
  | pair p => exact ⟨_, rfl, by simp⟩
  | sp => exact ⟨_, rfl, by simp⟩
  | mem m => exact ⟨_, rfl, by simp⟩

/-- A read of an 8-bit location never refuses, and stops only where memory holds no value. -/
theorem readLoc8_eq_fault {l : Loc8} {s : State} {f : Fault} (h : readLoc8 .spec l s = .fault f) :
    ∃ x, f = .unspecifiedRead x ∧ s.peek x = none := by
  cases l with
  | reg r => cases h
  | flags => cases h
  | mem m => exact ⟨_, readByte_eq_fault.1 h⟩

theorem readLoc8_ne_refused (l : Loc8) (s : State) (q : Refusal) : readLoc8 .spec l s ≠ .refused q := by
  cases l <;> simp [readLoc8]

/-- A read of a 16-bit location never refuses, and stops only where memory holds no value. -/
theorem readLoc16_eq_fault {l : Loc16} {s : State} {f : Fault} (h : readLoc16 .spec l s = .fault f) :
    ∃ x, f = .unspecifiedRead x ∧ s.peek x = none := by
  cases l with
  | pair p => cases h
  | sp => cases h
  | mem m => exact readWord_eq_fault h

theorem readLoc16_ne_refused (l : Loc16) (s : State) (q : Refusal) : readLoc16 .spec l s ≠ .refused q := by
  cases l <;> simp [readLoc16]

/-! ### The meanings -/

/-- 8-bit `MOV` reads, writes, advances. -/
theorem mov8_eq_next {cfg : Config} {dst : Loc8} {src : Src8} {len : Word} {s t : State} :
    mov8 cfg dst src len s = .next t ↔
      ∃ v u, readSrc8 cfg src s = .next v ∧ writeLoc8 cfg dst v s = .next u ∧ t = advance len u := by
  simp only [mov8, andThen_eq_next, Host.Outcome.next.injEq]
  constructor
  · rintro ⟨v, hv, u, hu, rfl⟩; exact ⟨v, u, hv, hu, rfl⟩
  · rintro ⟨v, u, hv, hu, rfl⟩; exact ⟨v, hv, u, hu, rfl⟩

/-- 16-bit `MOV` reads, writes, advances. -/
theorem mov16_eq_next {cfg : Config} {dst : Loc16} {src : Src16} {len : Word} {s t : State} :
    mov16 cfg dst src len s = .next t ↔
      ∃ v u, readSrc16 cfg src s = .next v ∧ writeLoc16 cfg dst v s = .next u ∧ t = advance len u := by
  simp only [mov16, andThen_eq_next, Host.Outcome.next.injEq]
  constructor
  · rintro ⟨v, hv, u, hu, rfl⟩; exact ⟨v, u, hv, hu, rfl⟩
  · rintro ⟨v, u, hv, hu, rfl⟩; exact ⟨v, hv, u, hu, rfl⟩

/-- 8-bit unary operations read, write with the new flags, advance. -/
theorem unary8_eq_next {cfg : Config} {op : UnaryOp 8} {l : Loc8} {len : Word} {s t : State} :
    unary8 cfg op l len s = .next t ↔ ∃ a u, readLoc8 cfg l s = .next a ∧
      writeLoc8 cfg l (op.compute cfg a s.flags.carry).1 (s.writeFlags cfg op.row (op.compute cfg a s.flags.carry).2) = .next u ∧ t = advance len u := by
  simp only [unary8, andThen_eq_next, Host.Outcome.next.injEq]
  constructor
  · rintro ⟨v, hv, u, hu, rfl⟩; exact ⟨v, u, hv, hu, rfl⟩
  · rintro ⟨v, u, hv, hu, rfl⟩; exact ⟨v, hv, u, hu, rfl⟩

/-- A 16-bit unary operation reads, writes with the new flags, advances. -/
theorem unary16_eq_next {cfg : Config} {op : UnaryOp 16} {l : Loc16} {len : Word} {s t : State} :
    unary16 cfg op l len s = .next t ↔ ∃ a u, readLoc16 cfg l s = .next a ∧
      writeLoc16 cfg l (op.compute cfg a s.flags.carry).1 (s.writeFlags cfg op.row (op.compute cfg a s.flags.carry).2) = .next u ∧ t = advance len u := by
  simp only [unary16, andThen_eq_next, Host.Outcome.next.injEq]
  constructor
  · rintro ⟨v, hv, u, hu, rfl⟩; exact ⟨v, u, hv, hu, rfl⟩
  · rintro ⟨v, u, hv, hu, rfl⟩; exact ⟨v, hv, u, hu, rfl⟩

/-- A unary operation on a register, a pair or `SP` always completes. -/
theorem unary8_reg (cfg : Config) (op : UnaryOp 8) (r : Reg) (len : Word) (s : State) :
    unary8 cfg op (.reg r) len s = .next (advance len ((s.writeFlags cfg op.row (op.compute cfg (s.reg r) s.flags.carry).2).setReg r
      (op.compute cfg (s.reg r) s.flags.carry).1)) := rfl

theorem unary16_pair (cfg : Config) (op : UnaryOp 16) (p : Pair) (len : Word) (s : State) :
    unary16 cfg op (.pair p) len s = .next (advance len ((s.writeFlags cfg op.row
      (op.compute cfg (s.pair p) s.flags.carry).2).setPair p (op.compute cfg (s.pair p) s.flags.carry).1)) := rfl

theorem unary16_sp (cfg : Config) (op : UnaryOp 16) (len : Word) (s : State) :
    unary16 cfg op .sp len s = .next (advance len ((s.writeFlags cfg op.row (op.compute cfg s.sp s.flags.carry).2).setSp
      (op.compute cfg s.sp s.flags.carry).1)) := rfl

/-- A unary operation on a memory position completes where the position holds a value. -/
theorem unary8_direct (op : UnaryOp 8) (x : Word) (len : Word) (s : State) (v : Byte) (h : s.peek x = some v) :
    unary8 .spec op (.mem (.direct x)) len s = .next (advance len ((s.writeFlags .spec op.row
      (op.compute .spec v s.flags.carry).2).setMem (Memory.put s.mem x.toNat (op.compute .spec v s.flags.carry).1))) :=
  unary8_eq_next.2 ⟨v, _, readByte_of_peek h, rfl, rfl⟩

/-- A binary operation on 8 bits completes where its second operand is read. -/
theorem binary8_of_read {cfg : Config} {src : Src8} {s : State} {b : Byte} (op : BinaryOp 8) (dst : Reg) (len : Word)
    (h : readSrc8 cfg src s = .next b) :
    binary8 cfg op dst src len s = .next (advance len ((s.writeFlags cfg op.row
      (op.compute cfg (s.reg dst) b s.flags.carry).2).setReg dst (op.compute cfg (s.reg dst) b s.flags.carry).1)) := by
  simp only [binary8, h, andThen_next]

theorem compare8_of_read {cfg : Config} {src : Src8} {s : State} {b : Byte} (first : Reg) (len : Word)
    (h : readSrc8 cfg src s = .next b) :
    compare8 cfg first src len s =
      .next (advance len (s.writeFlags cfg .subtraction (flagsSub cfg (s.reg first) b false).2)) := by
  simp only [compare8, h, andThen_next]

/-- A binary operation on 16 bits completes where its second operand is read. -/
theorem binary16_pair {cfg : Config} {src : Src16} {s : State} {b : Word} (op : BinaryOp 16) (p : Pair) (len : Word)
    (h : readSrc16 cfg src s = .next b) :
    binary16 cfg op (.pair p) src len s = .next (advance len ((s.writeFlags cfg op.row
      (op.compute cfg (s.pair p) b s.flags.carry).2).setPair p (op.compute cfg (s.pair p) b s.flags.carry).1)) := by
  simp only [binary16, h, readLoc16, andThen_next, writeLoc16]

theorem binary16_sp {cfg : Config} {src : Src16} {s : State} {b : Word} (op : BinaryOp 16) (len : Word)
    (h : readSrc16 cfg src s = .next b) :
    binary16 cfg op .sp src len s = .next (advance len ((s.writeFlags cfg op.row
      (op.compute cfg s.sp b s.flags.carry).2).setSp (op.compute cfg s.sp b s.flags.carry).1)) := by
  simp only [binary16, h, readLoc16, andThen_next, writeLoc16]

/-- A pop of one byte completes where the position `SP` addresses holds a value. -/
theorem popByte_of_peek {s : State} {v : Byte} (h : s.peek s.sp = some v) : popByte .spec s = .next (v, s.setSp (s.sp + 1)) :=
  popByte_eq_next.2 ⟨h, rfl⟩

theorem popWord_of_peek {s : State} {x y : Byte} (hx : s.peek s.sp = some x) (hy : s.peek (s.sp + 1) = some y) :
    popWord .spec s = .next (x ++ y, s.setSp (s.sp + 2)) :=
  popWord_eq_next.2 ⟨readWord_of_peek hx hy, rfl⟩

/-- `CALL` always completes. -/
theorem callTo_eq (target : Word) (len : Word) (s : State) :
    callTo .spec target len s = .next { s with
      sp := s.sp - 2, ip := target,
      mem := Memory.put (Memory.put s.mem (s.sp - 2).toNat (hiByte (s.ip + len))) (s.sp - 2 + 1).toNat (loByte (s.ip + len)) } :=
  rfl

/-- `RET` completes where both bytes at the top of the stack hold values. -/
theorem returnToTop_eq_next {s t : State} :
    returnToTop .spec s = .next t ↔ ∃ v, readWord .spec s.sp s = .next v ∧ t = { s with sp := s.sp + 2, ip := v } := by
  simp only [returnToTop, andThen_eq_next, Host.Outcome.next.injEq]
  constructor
  · rintro ⟨⟨v, u⟩, h, rfl⟩
    obtain ⟨hv, rfl⟩ := popWord_eq_next.1 h
    exact ⟨v, hv, rfl⟩
  · rintro ⟨v, hv, rfl⟩
    exact ⟨(v, _), popWord_eq_next.2 ⟨hv, rfl⟩, rfl⟩

end Sys2Proof.Machine
end

