-- ==== Sys2Proof/Laws/Decode.lean ====
section
/-! SUPPORT. The decoder and the fetch under any configuration: what each of their parts does, said once. -/

namespace Sys2Proof

/-- Whatever the opcode map, the byte of a row's number finds the row. -/
@[simp] theorem rowOf_opcodeMap (cfg : Config) (b : Byte) : rowOf cfg (cfg.opcodeMap b) = opcodeRows[b.toNat]? := by
  simp [rowOf]

/-- The decoder hands the bytes after the opcode to the opcode's row. -/
theorem decodeWith_cons {cfg : Config} {b : Byte} {row : Row} (h : rowOf cfg b = some row) (rest : List Byte) :
    decodeWith cfg (b :: rest) = row.assemble cfg rest := by
  simp only [decodeWith, h]

theorem decodeWith_opcodeMap {cfg : Config} {b : Byte} {row : Row} (h : opcodeRows[b.toNat]? = some row) (rest : List Byte) :
    decodeWith cfg (cfg.opcodeMap b :: rest) = row.assemble cfg rest :=
  decodeWith_cons ((rowOf_opcodeMap cfg b).trans h) rest

/-! ### The operand bytes of each format -/

theorem Row.assemble_f2 (cfg : Config) (k : Word → Instr) (w : Word) (rest : List Byte) :
    Row.assemble cfg (.f2 k) (encodeF2 cfg w ++ rest) = .ok (k w) := by
  simp [Row.assemble, encodeF2]

theorem Row.assemble_f3 (cfg : Config) (k : Word → Byte → Instr) (w : Word) (v : Byte) (rest : List Byte) :
    Row.assemble cfg (.f3 k) (encodeF3 cfg w v ++ rest) = .ok (k w v) := by
  unfold encodeF3 Row.assemble
  cases cfg.operandLayout <;> simp

/-- The displacement bytes, with more after them, give what they give alone. -/
theorem displacementOf_append {cfg : Config} {bytes : List Byte} {d : Word} (h : displacementOf cfg bytes = some d)
    (rest : List Byte) : displacementOf cfg (bytes ++ rest) = some d := by
  unfold displacementOf at *
  split at h <;> simp_all

theorem Row.assemble_disp {cfg : Config} {d : Word} (h : displacementOf cfg (displacementBytes cfg d) = some d) (k : Word → Instr)
    (rest : List Byte) : Row.assemble cfg (.disp k) (displacementBytes cfg d ++ rest) = .ok (k d) := by
  simp only [Row.assemble, displacementOf_append h]

/-- A displacement of 16 bits is given back by its bytes. -/
theorem displacementOf_bits16 {cfg : Config} (h : cfg.dispWidth = .bits16) (d : Word) :
    displacementOf cfg (displacementBytes cfg d) = some d := by
  simp [displacementOf, displacementBytes, h]

/-- A row reads no byte beyond its length (R75). -/
theorem Row.assemble_take (cfg : Config) (row : Row) (bytes : List Byte) (n : Nat) (h : row.length cfg ≤ n + 1) :
    row.assemble cfg (bytes.take n) = row.assemble cfg bytes := by
  cases row with
  | f0 i => rfl
  | f1 k =>
    simp only [Row.length] at h
    obtain ⟨n, rfl⟩ := Nat.exists_eq_add_of_le' (show 1 ≤ n by omega)
    cases bytes <;> rfl
  | f2 k =>
    simp only [Row.length] at h
    obtain ⟨n, rfl⟩ := Nat.exists_eq_add_of_le' (show 2 ≤ n by omega)
    match bytes with
    | [] | [_] | _ :: _ :: _ => rfl
  | f3 k =>
    simp only [Row.length] at h
    obtain ⟨n, rfl⟩ := Nat.exists_eq_add_of_le' (show 3 ≤ n by omega)
    match bytes with
    | [] | [_] | [_, _] | _ :: _ :: _ :: _ => rfl
  | disp k =>
    simp only [Row.assemble]
    have : displacementOf cfg (bytes.take n) = displacementOf cfg bytes := by
      simp only [Row.length, indexedLength] at h
      unfold displacementOf
      cases hd : cfg.dispWidth <;> simp only [hd] at h
      · obtain ⟨n, rfl⟩ := Nat.exists_eq_add_of_le' (show 2 ≤ n by simp at h; omega)
        match bytes with
        | [] | [_] | _ :: _ :: _ => rfl
      all_goals
        obtain ⟨n, rfl⟩ := Nat.exists_eq_add_of_le' (show 1 ≤ n by simp at h; omega)
        cases bytes <;> rfl
    rw [this]

/-- The encoding of an instruction is as long as the row of its opcode says. -/
theorem Row.length_f2 (cfg : Config) (b : Byte) (k : Word → Instr) (w : Word) :
    (b :: encodeF2 cfg w).length = Row.length cfg (.f2 k) := rfl

theorem Row.length_f3 (cfg : Config) (b : Byte) (k : Word → Byte → Instr) (w : Word) (v : Byte) :
    (b :: encodeF3 cfg w v).length = Row.length cfg (.f3 k) := by
  unfold encodeF3
  cases cfg.operandLayout <;> rfl

theorem Row.length_disp (cfg : Config) (b : Byte) (k : Word → Instr) (d : Word) :
    (b :: displacementBytes cfg d).length = Row.length cfg (.disp k) := by
  unfold displacementBytes Row.length indexedLength
  cases cfg.dispWidth <;> rfl

namespace Machine

/-- The bytes from an address on are read where every one lies inside `MEM_MAP` and holds a value. -/
theorem readBytes_of_peek {cfg : Config} {s : State} {a : Word} {bytes : List Byte}
    (h : ∀ k < bytes.length, cfg.memMap (a + BitVec.ofNat 16 k) = true ∧ s.peek (a + BitVec.ofNat 16 k) = bytes[k]?) :
    readBytes cfg bytes.length a s = .next bytes := by
  induction bytes generalizing a with
  | nil => rfl
  | cons v rest ih =>
    have h0 := h 0 (Nat.succ_pos _)
    simp only [BitVec.add_zero, List.getElem?_cons_zero] at h0
    have hr : readByte cfg a s = .next v := by simp [readByte, h0.1, h0.2]
    have ht : readBytes cfg rest.length (a + 1) s = .next rest := by
      refine ih fun k hk => ?_
      have := h (k + 1) (Nat.succ_lt_succ hk)
      rwa [show a + BitVec.ofNat 16 (k + 1) = a + 1 + BitVec.ofNat 16 k by
        rw [Nat.add_comm, BitVec.ofNat_add, ← BitVec.add_assoc]; rfl] at this
    simp only [List.length_cons, readBytes, hr, ht, andThen_next]

/-- The fetch gives the instruction that the bytes its length names decode to. -/
theorem fetch_of_bytes {cfg : Config} {s : State} {b : Byte} {row : Row} {bytes : List Byte} {i : Instr}
    (hb : readByte cfg s.ip s = .next b) (hr : rowOf cfg b = some row)
    (hs : readBytes cfg (row.length cfg) s.ip s = .next bytes) (hd : decodeWith cfg bytes = .ok i) : fetch cfg s = .next i := by
  simp [fetch, hb, lengthOfOpcode, hr, hs, hd]

/-- A turn of the cycle in a state that is not halted runs what the fetch gives. -/
theorem cycle_of_fetch {cfg : Config} {run : Instr → State → Res State} {s : State} {i : Instr} (hh : s.halted = false)
    (hf : fetch cfg s = .next i) : cycle cfg run s = run i s := by
  simp [cycle, hh, hf]

/-- A turn of the cycle that answers a next state fetched an instruction and ran it. -/
theorem cycle_eq_next {cfg : Config} {run : Instr → State → Res State} {s t : State} :
    cycle cfg run s = .next t ↔ s.halted = false ∧ ∃ i, fetch cfg s = .next i ∧ run i s = .next t := by
  unfold cycle
  cases s.halted <;> simp [raise, andThen_eq_next]

end Machine

end Sys2Proof
end

