-- ==== Sys2Proof/Laws/Flags.lean ====
section
/-! SUPPORT. For each row of the flag policy, once, the result and the flags in the terms the statements use. -/

namespace Sys2Proof.Machine

/-! ### `S`, `P`, `Z` -/

theorem parityFlag_spec {w : Nat} (res : BitVec w) : parityFlag .spec res =
    !(res.getLsbD 0 ^^ res.getLsbD 1 ^^ res.getLsbD 2 ^^ res.getLsbD 3 ^^ res.getLsbD 4 ^^ res.getLsbD 5 ^^
      res.getLsbD 6 ^^ res.getLsbD 7) := by
  have h : List.range 8 = [0, 1, 2, 3, 4, 5, 6, 7] := rfl
  simp only [parityFlag, Config.spec_paritySense, popcountLow8, h, List.filter]
  generalize res.getLsbD 0 = b0
  generalize res.getLsbD 1 = b1
  generalize res.getLsbD 2 = b2
  generalize res.getLsbD 3 = b3
  generalize res.getLsbD 4 = b4
  generalize res.getLsbD 5 = b5
  generalize res.getLsbD 6 = b6
  generalize res.getLsbD 7 = b7
  revert b0 b1 b2 b3 b4 b5 b6 b7
  decide

/-- `szp_W` sets `S`, `Z` and `P` as `Flags.Show` says. -/
theorem flagsOf_show {w : Nat} (res : BitVec w) (carry overflow : Bool) : (flagsOf .spec res carry overflow).Show res := by
  refine ⟨BitVec.msb_eq_toInt, ?_, parityFlag_spec res⟩
  rw [Bool.eq_iff_iff]
  simp only [flagsOf, beq_iff_eq, decide_eq_true_eq]
  exact ⟨fun h => by rw [h]; exact BitVec.toNat_zero,
    fun h => BitVec.eq_of_toNat_eq (h.trans BitVec.toNat_zero.symm)⟩

@[simp] theorem flagsOf_carry (cfg : Config) {w : Nat} (res : BitVec w) (c o : Bool) : (flagsOf cfg res c o).carry = c := rfl
@[simp] theorem flagsOf_overflow (cfg : Config) {w : Nat} (res : BitVec w) (c o : Bool) : (flagsOf cfg res c o).overflow = o := rfl

/-- What `Flags.Show` fixes does not depend on `O` and `C`. -/
theorem Flags.Show.of_same {w : Nat} {f g : Flags} {res : BitVec w} (h : f.Show res) (hs : g.sign = f.sign) (hz : g.zero = f.zero)
    (hp : g.parity = f.parity) : g.Show res := by
  obtain ⟨h1, h2, h3⟩ := h
  exact ⟨hs.trans h1, hz.trans h2, hp.trans h3⟩

/-! ### Addition and subtraction -/

theorem flagsAdd_fst (cfg : Config) {w : Nat} (a b : BitVec w) (cin : Bool) :
    (flagsAdd cfg a b cin).1 = a + b + BitVec.ofNat w cin.toNat := by
  apply BitVec.eq_of_toNat_eq
  simp [flagsAdd, BitVec.toNat_add]

theorem flagsAdd_show {w : Nat} (a b : BitVec w) (cin : Bool) :
    (flagsAdd .spec a b cin).2.Show (flagsAdd .spec a b cin).1 := flagsOf_show _ _ _

theorem flagsAdd_carry (cfg : Config) {w : Nat} (a b : BitVec w) (cin : Bool) :
    (flagsAdd cfg a b cin).2.carry = true ↔ 2 ^ w ≤ a.toNat + b.toNat + cin.toNat := by
  simp [flagsAdd]

/-- A difference taken in the integers and narrowed is the difference of bit vectors. -/
theorem ofInt_sub_eq (w : Nat) (x y : Int) : BitVec.ofInt w (x - y) = BitVec.ofInt w x - BitVec.ofInt w y := by
  rw [Int.sub_eq_add_neg, BitVec.ofInt_add, BitVec.ofInt_neg, BitVec.sub_eq_add_neg]

theorem flagsSub_fst (cfg : Config) {w : Nat} (a b : BitVec w) (bin : Bool) :
    (flagsSub cfg a b bin).1 = a - b - BitVec.ofNat w bin.toNat := by
  simp only [flagsSub, ofInt_sub_eq, BitVec.ofInt_natCast, BitVec.ofNat_toNat, BitVec.setWidth_eq]

theorem flagsSub_show {w : Nat} (a b : BitVec w) (bin : Bool) :
    (flagsSub .spec a b bin).2.Show (flagsSub .spec a b bin).1 := flagsOf_show _ _ _

theorem flagsSub_carry (cfg : Config) {w : Nat} (a b : BitVec w) (bin : Bool) :
    (flagsSub cfg a b bin).2.carry = true ↔ a.toNat < b.toNat + bin.toNat := by
  simp only [flagsSub, flagsOf_carry, decide_eq_true_eq]
  omega

/-- `O` after an addition of 8 bits is signed overflow. -/
theorem flagsAdd_overflow8 (cfg : Config) (a b : Byte) (cin : Bool) :
    (flagsAdd cfg a b cin).2.overflow = true ↔ OutOfRange 8 (a.toInt + b.toInt + cin.toNat) := by
  have ha := a.isLt; have hb := b.isLt
  simp only [flagsAdd, flagsOf_overflow, OutOfRange, BitVec.msb_eq_decide, BitVec.toInt_eq_toNat_cond, Bool.and_eq_true, beq_iff_eq,
    bne_iff_ne, BitVec.toNat_ofNat, decide_eq_decide, ne_eq]
  cases cin <;> simp only [Bool.toNat_true, Bool.toNat_false] <;> omega

theorem flagsAdd_overflow16 (cfg : Config) (a b : Word) (cin : Bool) :
    (flagsAdd cfg a b cin).2.overflow = true ↔ OutOfRange 16 (a.toInt + b.toInt + cin.toNat) := by
  have ha := a.isLt; have hb := b.isLt
  simp only [flagsAdd, flagsOf_overflow, OutOfRange, BitVec.msb_eq_decide, BitVec.toInt_eq_toNat_cond, Bool.and_eq_true, beq_iff_eq,
    bne_iff_ne, BitVec.toNat_ofNat, decide_eq_decide, ne_eq]
  cases cin <;> simp only [Bool.toNat_true, Bool.toNat_false] <;> omega

/-- `O` after a subtraction of 8 bits is signed overflow. -/
theorem flagsSub_overflow8 (cfg : Config) (a b : Byte) (bin : Bool) :
    (flagsSub cfg a b bin).2.overflow = true ↔ OutOfRange 8 (a.toInt - b.toInt - bin.toNat) := by
  have ha := a.isLt; have hb := b.isLt
  simp only [flagsSub, flagsOf_overflow, OutOfRange, BitVec.msb_eq_decide, BitVec.toInt_eq_toNat_cond, Bool.and_eq_true, bne_iff_ne,
    BitVec.toNat_ofInt, decide_eq_decide, ne_eq]
  cases bin <;> simp only [Bool.toNat_true, Bool.toNat_false] <;> omega

theorem flagsSub_overflow16 (cfg : Config) (a b : Word) (bin : Bool) :
    (flagsSub cfg a b bin).2.overflow = true ↔ OutOfRange 16 (a.toInt - b.toInt - bin.toNat) := by
  have ha := a.isLt; have hb := b.isLt
  simp only [flagsSub, flagsOf_overflow, OutOfRange, BitVec.msb_eq_decide, BitVec.toInt_eq_toNat_cond, Bool.and_eq_true, bne_iff_ne,
    BitVec.toNat_ofInt, decide_eq_decide, ne_eq]
  cases bin <;> simp only [Bool.toNat_true, Bool.toNat_false] <;> omega

/-! ### Increment, decrement, logic, complement -/

theorem flagsInc_fst (cfg : Config) {w : Nat} (a : BitVec w) : (flagsInc cfg a).1 = a + BitVec.ofNat w 1 := by
  apply BitVec.eq_of_toNat_eq
  simp [flagsInc, BitVec.toNat_add]

theorem flagsInc_show {w : Nat} (a : BitVec w) : (flagsInc .spec a).2.Show (flagsInc .spec a).1 := flagsOf_show _ _ _

theorem flagsDec_fst (cfg : Config) {w : Nat} (a : BitVec w) : (flagsDec cfg a).1 = a - BitVec.ofNat w 1 := by
  simp only [flagsDec, ofInt_sub_eq, BitVec.ofInt_natCast, BitVec.ofNat_toNat, BitVec.setWidth_eq]
  rw [show BitVec.ofInt w 1 = BitVec.ofNat w 1 from BitVec.ofInt_natCast w 1]

theorem flagsDec_show {w : Nat} (a : BitVec w) : (flagsDec .spec a).2.Show (flagsDec .spec a).1 := flagsOf_show _ _ _

@[simp] theorem flagsLogic_fst (cfg : Config) {w : Nat} (res : BitVec w) : (flagsLogic cfg res).1 = res := rfl
theorem flagsLogic_show {w : Nat} (res : BitVec w) : (flagsLogic .spec res).2.Show res := flagsOf_show _ _ _
@[simp] theorem flagsLogic_carry (cfg : Config) {w : Nat} (res : BitVec w) : (flagsLogic cfg res).2.carry = false := rfl
@[simp] theorem flagsLogic_overflow (cfg : Config) {w : Nat} (res : BitVec w) : (flagsLogic cfg res).2.overflow = false := rfl

theorem flagsNot_fst (cfg : Config) {w : Nat} (a : BitVec w) : (flagsNot cfg a).1 = ~~~a := by
  simp only [flagsNot, flagsLogic]
  rw [show BitVec.ofNat w (2 ^ w - 1) = BitVec.allOnes w from BitVec.eq_of_toNat_eq (by
    rw [BitVec.toNat_ofNat, BitVec.toNat_allOnes, Nat.mod_eq_of_lt (Nat.sub_lt (Nat.two_pow_pos w) Nat.one_pos)]),
    BitVec.xor_allOnes]

/-! ### What the policy of the spec writes (R19) -/

section
variable (s : State) (f : Flags)

/-- The rows in which every flag is computed. -/
@[simp] theorem State.writeFlags_addition : s.writeFlags .spec .addition f = s.setFlags f := rfl
@[simp] theorem State.writeFlags_subtraction : s.writeFlags .spec .subtraction f = s.setFlags f := rfl
@[simp] theorem State.writeFlags_negation : s.writeFlags .spec .negation f = s.setFlags f := rfl
@[simp] theorem State.writeFlags_shiftLeft : s.writeFlags .spec .shiftLeft f = s.setFlags f := rfl
@[simp] theorem State.writeFlags_shiftRight : s.writeFlags .spec .shiftRight f = s.setFlags f := rfl

/-- `INC` and `DEC` keep `C`. -/
@[simp] theorem State.writeFlags_increment : s.writeFlags .spec .increment f = s.setFlags { f with carry := s.flags.carry } := rfl
@[simp] theorem State.writeFlags_decrement : s.writeFlags .spec .decrement f = s.setFlags { f with carry := s.flags.carry } := rfl

/-- The logic operations clear `O` and `C`. -/
@[simp] theorem State.writeFlags_logic : s.writeFlags .spec .logic f = s.setFlags { f with overflow := false, carry := false } := rfl

/-- `NOT` and `EXP` write no flag. -/
@[simp] theorem State.writeFlags_complement : s.writeFlags .spec .complement f = s := rfl
@[simp] theorem State.writeFlags_signExpansion : s.writeFlags .spec .signExpansion f = s := rfl

/-- The rotations write `O` and `C`. -/
@[simp] theorem State.writeFlags_rotateLeft :
    s.writeFlags .spec .rotateLeft f = s.setFlags { s.flags with overflow := f.overflow, carry := f.carry } := rfl
@[simp] theorem State.writeFlags_rotateRight :
    s.writeFlags .spec .rotateRight f = s.setFlags { s.flags with overflow := f.overflow, carry := f.carry } := rfl

end

/-- Under any policy the flags and the counter of free flags are all that is written. -/
theorem State.writeFlags_frame (cfg : Config) (row : FlagRow) (f : Flags) (s : State) : s.writeFlags cfg row f =
    { s with flags := (s.writeFlags cfg row f).flags, flagDraws := (s.writeFlags cfg row f).flagDraws } := rfl

end Sys2Proof.Machine
end

