-- ==== Sys2Proof/Laws/PerInstr.lean ====
section
/-! SUPPORT. Facts about each instruction as syntax, one lemma per constructor. -/

namespace Sys2Proof.Laws

/-- The instruction as written keeps the rules on operands (spec/30_encoding.md R65). -/
def WellFormed.Statement (i : Instr) : Prop := i.wellFormed = true

theorem WellFormed.movA_imm8 (imm8 : Byte) : WellFormed.Statement (.movA_imm8 imm8) := rfl
theorem WellFormed.movA_B : WellFormed.Statement (.movA_B) := rfl
theorem WellFormed.movA_C : WellFormed.Statement (.movA_C) := rfl
theorem WellFormed.movA_D : WellFormed.Statement (.movA_D) := rfl
theorem WellFormed.movA_atAddr (addr16 : Word) : WellFormed.Statement (.movA_atAddr addr16) := rfl
theorem WellFormed.movA_atAB : WellFormed.Statement (.movA_atAB) := rfl
theorem WellFormed.movA_atCD : WellFormed.Statement (.movA_atCD) := rfl
theorem WellFormed.movA_atABdisp (disp16 : Word) : WellFormed.Statement (.movA_atABdisp disp16) := rfl
theorem WellFormed.movA_atCDdisp (disp16 : Word) : WellFormed.Statement (.movA_atCDdisp disp16) := rfl
theorem WellFormed.movB_imm8 (imm8 : Byte) : WellFormed.Statement (.movB_imm8 imm8) := rfl
theorem WellFormed.movB_A : WellFormed.Statement (.movB_A) := rfl
theorem WellFormed.movB_C : WellFormed.Statement (.movB_C) := rfl
theorem WellFormed.movB_D : WellFormed.Statement (.movB_D) := rfl
theorem WellFormed.movB_atAddr (addr16 : Word) : WellFormed.Statement (.movB_atAddr addr16) := rfl
theorem WellFormed.movB_atAB : WellFormed.Statement (.movB_atAB) := rfl
theorem WellFormed.movB_atCD : WellFormed.Statement (.movB_atCD) := rfl
theorem WellFormed.movB_atABdisp (disp16 : Word) : WellFormed.Statement (.movB_atABdisp disp16) := rfl
theorem WellFormed.movB_atCDdisp (disp16 : Word) : WellFormed.Statement (.movB_atCDdisp disp16) := rfl
theorem WellFormed.movC_imm8 (imm8 : Byte) : WellFormed.Statement (.movC_imm8 imm8) := rfl
theorem WellFormed.movC_A : WellFormed.Statement (.movC_A) := rfl
theorem WellFormed.movC_B : WellFormed.Statement (.movC_B) := rfl
theorem WellFormed.movC_D : WellFormed.Statement (.movC_D) := rfl
theorem WellFormed.movC_atAddr (addr16 : Word) : WellFormed.Statement (.movC_atAddr addr16) := rfl
theorem WellFormed.movC_atAB : WellFormed.Statement (.movC_atAB) := rfl
theorem WellFormed.movC_atCD : WellFormed.Statement (.movC_atCD) := rfl
theorem WellFormed.movC_atABdisp (disp16 : Word) : WellFormed.Statement (.movC_atABdisp disp16) := rfl
theorem WellFormed.movC_atCDdisp (disp16 : Word) : WellFormed.Statement (.movC_atCDdisp disp16) := rfl
theorem WellFormed.movD_imm8 (imm8 : Byte) : WellFormed.Statement (.movD_imm8 imm8) := rfl
theorem WellFormed.movD_A : WellFormed.Statement (.movD_A) := rfl
theorem WellFormed.movD_B : WellFormed.Statement (.movD_B) := rfl
theorem WellFormed.movD_C : WellFormed.Statement (.movD_C) := rfl
theorem WellFormed.movD_atAddr (addr16 : Word) : WellFormed.Statement (.movD_atAddr addr16) := rfl
theorem WellFormed.movD_atAB : WellFormed.Statement (.movD_atAB) := rfl
theorem WellFormed.movD_atCD : WellFormed.Statement (.movD_atCD) := rfl
theorem WellFormed.movD_atABdisp (disp16 : Word) : WellFormed.Statement (.movD_atABdisp disp16) := rfl
theorem WellFormed.movD_atCDdisp (disp16 : Word) : WellFormed.Statement (.movD_atCDdisp disp16) := rfl
theorem WellFormed.movAtAddr_A (addr16 : Word) : WellFormed.Statement (.movAtAddr_A addr16) := rfl
theorem WellFormed.movAtAddr_B (addr16 : Word) : WellFormed.Statement (.movAtAddr_B addr16) := rfl
theorem WellFormed.movAtAddr_C (addr16 : Word) : WellFormed.Statement (.movAtAddr_C addr16) := rfl
theorem WellFormed.movAtAddr_D (addr16 : Word) : WellFormed.Statement (.movAtAddr_D addr16) := rfl
theorem WellFormed.movAtAB_C : WellFormed.Statement (.movAtAB_C) := rfl
theorem WellFormed.movAtAB_D : WellFormed.Statement (.movAtAB_D) := rfl
theorem WellFormed.movAtCD_A : WellFormed.Statement (.movAtCD_A) := rfl
theorem WellFormed.movAtCD_B : WellFormed.Statement (.movAtCD_B) := rfl
theorem WellFormed.movAtABdisp_C (disp16 : Word) : WellFormed.Statement (.movAtABdisp_C disp16) := rfl
theorem WellFormed.movAtABdisp_D (disp16 : Word) : WellFormed.Statement (.movAtABdisp_D disp16) := rfl
theorem WellFormed.movAtCDdisp_A (disp16 : Word) : WellFormed.Statement (.movAtCDdisp_A disp16) := rfl
theorem WellFormed.movAtCDdisp_B (disp16 : Word) : WellFormed.Statement (.movAtCDdisp_B disp16) := rfl
theorem WellFormed.movAtAddr_imm8 (addr16 : Word) (imm8 : Byte) : WellFormed.Statement (.movAtAddr_imm8 addr16 imm8) := rfl
theorem WellFormed.movAB_imm16 (imm16 : Word) : WellFormed.Statement (.movAB_imm16 imm16) := rfl
theorem WellFormed.movAB_atAddr (addr16 : Word) : WellFormed.Statement (.movAB_atAddr addr16) := rfl
theorem WellFormed.movAB_atAB : WellFormed.Statement (.movAB_atAB) := rfl
theorem WellFormed.movAB_atCD : WellFormed.Statement (.movAB_atCD) := rfl
theorem WellFormed.movAB_atABdisp (disp16 : Word) : WellFormed.Statement (.movAB_atABdisp disp16) := rfl
theorem WellFormed.movAB_atCDdisp (disp16 : Word) : WellFormed.Statement (.movAB_atCDdisp disp16) := rfl
theorem WellFormed.movAB_CD : WellFormed.Statement (.movAB_CD) := rfl
theorem WellFormed.movAB_SP : WellFormed.Statement (.movAB_SP) := rfl
theorem WellFormed.movCD_imm16 (imm16 : Word) : WellFormed.Statement (.movCD_imm16 imm16) := rfl
theorem WellFormed.movCD_atAddr (addr16 : Word) : WellFormed.Statement (.movCD_atAddr addr16) := rfl
theorem WellFormed.movCD_atAB : WellFormed.Statement (.movCD_atAB) := rfl
theorem WellFormed.movCD_atCD : WellFormed.Statement (.movCD_atCD) := rfl
theorem WellFormed.movCD_atABdisp (disp16 : Word) : WellFormed.Statement (.movCD_atABdisp disp16) := rfl
theorem WellFormed.movCD_atCDdisp (disp16 : Word) : WellFormed.Statement (.movCD_atCDdisp disp16) := rfl
theorem WellFormed.movCD_AB : WellFormed.Statement (.movCD_AB) := rfl
theorem WellFormed.movCD_SP : WellFormed.Statement (.movCD_SP) := rfl
theorem WellFormed.movSP_imm16 (imm16 : Word) : WellFormed.Statement (.movSP_imm16 imm16) := rfl
theorem WellFormed.movSP_atAddr (addr16 : Word) : WellFormed.Statement (.movSP_atAddr addr16) := rfl
theorem WellFormed.movSP_AB : WellFormed.Statement (.movSP_AB) := rfl
theorem WellFormed.movSP_CD : WellFormed.Statement (.movSP_CD) := rfl
theorem WellFormed.movAtAddr_AB (addr16 : Word) : WellFormed.Statement (.movAtAddr_AB addr16) := rfl
theorem WellFormed.movAtAddr_CD (addr16 : Word) : WellFormed.Statement (.movAtAddr_CD addr16) := rfl
theorem WellFormed.movAtAddr_SP (addr16 : Word) : WellFormed.Statement (.movAtAddr_SP addr16) := rfl
theorem WellFormed.movAtAB_CD : WellFormed.Statement (.movAtAB_CD) := rfl
theorem WellFormed.movAtCD_AB : WellFormed.Statement (.movAtCD_AB) := rfl
theorem WellFormed.movAtABdisp_CD (disp16 : Word) : WellFormed.Statement (.movAtABdisp_CD disp16) := rfl
theorem WellFormed.movAtCDdisp_AB (disp16 : Word) : WellFormed.Statement (.movAtCDdisp_AB disp16) := rfl
theorem WellFormed.inA : WellFormed.Statement (.inA) := rfl
theorem WellFormed.inB : WellFormed.Statement (.inB) := rfl
theorem WellFormed.outA : WellFormed.Statement (.outA) := rfl
theorem WellFormed.outB : WellFormed.Statement (.outB) := rfl
theorem WellFormed.pushA : WellFormed.Statement (.pushA) := rfl
theorem WellFormed.pushB : WellFormed.Statement (.pushB) := rfl
theorem WellFormed.pushC : WellFormed.Statement (.pushC) := rfl
theorem WellFormed.pushD : WellFormed.Statement (.pushD) := rfl
theorem WellFormed.pushF : WellFormed.Statement (.pushF) := rfl
theorem WellFormed.pushAtAddr (addr16 : Word) : WellFormed.Statement (.pushAtAddr addr16) := rfl
theorem WellFormed.popA : WellFormed.Statement (.popA) := rfl
theorem WellFormed.popB : WellFormed.Statement (.popB) := rfl
theorem WellFormed.popC : WellFormed.Statement (.popC) := rfl
theorem WellFormed.popD : WellFormed.Statement (.popD) := rfl
theorem WellFormed.popF : WellFormed.Statement (.popF) := rfl
theorem WellFormed.popAtAddr (addr16 : Word) : WellFormed.Statement (.popAtAddr addr16) := rfl
theorem WellFormed.pushAB : WellFormed.Statement (.pushAB) := rfl
theorem WellFormed.pushCD : WellFormed.Statement (.pushCD) := rfl
theorem WellFormed.popAB : WellFormed.Statement (.popAB) := rfl
theorem WellFormed.popCD : WellFormed.Statement (.popCD) := rfl
theorem WellFormed.decA : WellFormed.Statement (.decA) := rfl
theorem WellFormed.decB : WellFormed.Statement (.decB) := rfl
theorem WellFormed.decC : WellFormed.Statement (.decC) := rfl
theorem WellFormed.decD : WellFormed.Statement (.decD) := rfl
theorem WellFormed.decAtAddr (addr16 : Word) : WellFormed.Statement (.decAtAddr addr16) := rfl
theorem WellFormed.incA : WellFormed.Statement (.incA) := rfl
theorem WellFormed.incB : WellFormed.Statement (.incB) := rfl
theorem WellFormed.incC : WellFormed.Statement (.incC) := rfl
theorem WellFormed.incD : WellFormed.Statement (.incD) := rfl
theorem WellFormed.incAtAddr (addr16 : Word) : WellFormed.Statement (.incAtAddr addr16) := rfl
theorem WellFormed.decAB : WellFormed.Statement (.decAB) := rfl
theorem WellFormed.decCD : WellFormed.Statement (.decCD) := rfl
theorem WellFormed.decSP : WellFormed.Statement (.decSP) := rfl
theorem WellFormed.incAB : WellFormed.Statement (.incAB) := rfl
theorem WellFormed.incCD : WellFormed.Statement (.incCD) := rfl
theorem WellFormed.incSP : WellFormed.Statement (.incSP) := rfl
theorem WellFormed.notA : WellFormed.Statement (.notA) := rfl
theorem WellFormed.notB : WellFormed.Statement (.notB) := rfl
theorem WellFormed.negA : WellFormed.Statement (.negA) := rfl
theorem WellFormed.negB : WellFormed.Statement (.negB) := rfl
theorem WellFormed.shlA : WellFormed.Statement (.shlA) := rfl
theorem WellFormed.shlB : WellFormed.Statement (.shlB) := rfl
theorem WellFormed.shrA : WellFormed.Statement (.shrA) := rfl
theorem WellFormed.shrB : WellFormed.Statement (.shrB) := rfl
theorem WellFormed.rlA : WellFormed.Statement (.rlA) := rfl
theorem WellFormed.rlB : WellFormed.Statement (.rlB) := rfl
theorem WellFormed.rrA : WellFormed.Statement (.rrA) := rfl
theorem WellFormed.rrB : WellFormed.Statement (.rrB) := rfl
theorem WellFormed.notAB : WellFormed.Statement (.notAB) := rfl
theorem WellFormed.negAB : WellFormed.Statement (.negAB) := rfl
theorem WellFormed.shlAB : WellFormed.Statement (.shlAB) := rfl
theorem WellFormed.shrAB : WellFormed.Statement (.shrAB) := rfl
theorem WellFormed.rlAB : WellFormed.Statement (.rlAB) := rfl
theorem WellFormed.rrAB : WellFormed.Statement (.rrAB) := rfl
theorem WellFormed.subA_imm8 (imm8 : Byte) : WellFormed.Statement (.subA_imm8 imm8) := rfl
theorem WellFormed.subA_B : WellFormed.Statement (.subA_B) := rfl
theorem WellFormed.subA_C : WellFormed.Statement (.subA_C) := rfl
theorem WellFormed.subA_D : WellFormed.Statement (.subA_D) := rfl
theorem WellFormed.subB_imm8 (imm8 : Byte) : WellFormed.Statement (.subB_imm8 imm8) := rfl
theorem WellFormed.subB_A : WellFormed.Statement (.subB_A) := rfl
theorem WellFormed.subB_C : WellFormed.Statement (.subB_C) := rfl
theorem WellFormed.subB_D : WellFormed.Statement (.subB_D) := rfl
theorem WellFormed.addA_imm8 (imm8 : Byte) : WellFormed.Statement (.addA_imm8 imm8) := rfl
theorem WellFormed.addA_B : WellFormed.Statement (.addA_B) := rfl
theorem WellFormed.addA_C : WellFormed.Statement (.addA_C) := rfl
theorem WellFormed.addA_D : WellFormed.Statement (.addA_D) := rfl
theorem WellFormed.addB_imm8 (imm8 : Byte) : WellFormed.Statement (.addB_imm8 imm8) := rfl
theorem WellFormed.addB_A : WellFormed.Statement (.addB_A) := rfl
theorem WellFormed.addB_C : WellFormed.Statement (.addB_C) := rfl
theorem WellFormed.addB_D : WellFormed.Statement (.addB_D) := rfl
theorem WellFormed.sbbA_imm8 (imm8 : Byte) : WellFormed.Statement (.sbbA_imm8 imm8) := rfl
theorem WellFormed.sbbA_B : WellFormed.Statement (.sbbA_B) := rfl
theorem WellFormed.sbbA_C : WellFormed.Statement (.sbbA_C) := rfl
theorem WellFormed.sbbA_D : WellFormed.Statement (.sbbA_D) := rfl
theorem WellFormed.sbbB_imm8 (imm8 : Byte) : WellFormed.Statement (.sbbB_imm8 imm8) := rfl
theorem WellFormed.sbbB_A : WellFormed.Statement (.sbbB_A) := rfl
theorem WellFormed.sbbB_C : WellFormed.Statement (.sbbB_C) := rfl
theorem WellFormed.sbbB_D : WellFormed.Statement (.sbbB_D) := rfl
theorem WellFormed.adcA_imm8 (imm8 : Byte) : WellFormed.Statement (.adcA_imm8 imm8) := rfl
theorem WellFormed.adcA_B : WellFormed.Statement (.adcA_B) := rfl
theorem WellFormed.adcA_C : WellFormed.Statement (.adcA_C) := rfl
theorem WellFormed.adcA_D : WellFormed.Statement (.adcA_D) := rfl
theorem WellFormed.adcB_imm8 (imm8 : Byte) : WellFormed.Statement (.adcB_imm8 imm8) := rfl
theorem WellFormed.adcB_A : WellFormed.Statement (.adcB_A) := rfl
theorem WellFormed.adcB_C : WellFormed.Statement (.adcB_C) := rfl
theorem WellFormed.adcB_D : WellFormed.Statement (.adcB_D) := rfl
theorem WellFormed.cmpA_imm8 (imm8 : Byte) : WellFormed.Statement (.cmpA_imm8 imm8) := rfl
theorem WellFormed.cmpA_B : WellFormed.Statement (.cmpA_B) := rfl
theorem WellFormed.cmpA_C : WellFormed.Statement (.cmpA_C) := rfl
theorem WellFormed.cmpA_D : WellFormed.Statement (.cmpA_D) := rfl
theorem WellFormed.cmpB_imm8 (imm8 : Byte) : WellFormed.Statement (.cmpB_imm8 imm8) := rfl
theorem WellFormed.cmpB_A : WellFormed.Statement (.cmpB_A) := rfl
theorem WellFormed.cmpB_C : WellFormed.Statement (.cmpB_C) := rfl
theorem WellFormed.cmpB_D : WellFormed.Statement (.cmpB_D) := rfl
theorem WellFormed.andA_imm8 (imm8 : Byte) : WellFormed.Statement (.andA_imm8 imm8) := rfl
theorem WellFormed.andA_B : WellFormed.Statement (.andA_B) := rfl
theorem WellFormed.andA_C : WellFormed.Statement (.andA_C) := rfl
theorem WellFormed.andA_D : WellFormed.Statement (.andA_D) := rfl
theorem WellFormed.andB_imm8 (imm8 : Byte) : WellFormed.Statement (.andB_imm8 imm8) := rfl
theorem WellFormed.andB_A : WellFormed.Statement (.andB_A) := rfl
theorem WellFormed.andB_C : WellFormed.Statement (.andB_C) := rfl
theorem WellFormed.andB_D : WellFormed.Statement (.andB_D) := rfl
theorem WellFormed.xorA_imm8 (imm8 : Byte) : WellFormed.Statement (.xorA_imm8 imm8) := rfl
theorem WellFormed.xorA_B : WellFormed.Statement (.xorA_B) := rfl
theorem WellFormed.xorA_C : WellFormed.Statement (.xorA_C) := rfl
theorem WellFormed.xorA_D : WellFormed.Statement (.xorA_D) := rfl
theorem WellFormed.xorB_imm8 (imm8 : Byte) : WellFormed.Statement (.xorB_imm8 imm8) := rfl
theorem WellFormed.xorB_A : WellFormed.Statement (.xorB_A) := rfl
theorem WellFormed.xorB_C : WellFormed.Statement (.xorB_C) := rfl
theorem WellFormed.xorB_D : WellFormed.Statement (.xorB_D) := rfl
theorem WellFormed.orA_imm8 (imm8 : Byte) : WellFormed.Statement (.orA_imm8 imm8) := rfl
theorem WellFormed.orA_B : WellFormed.Statement (.orA_B) := rfl
theorem WellFormed.orA_C : WellFormed.Statement (.orA_C) := rfl
theorem WellFormed.orA_D : WellFormed.Statement (.orA_D) := rfl
theorem WellFormed.orB_imm8 (imm8 : Byte) : WellFormed.Statement (.orB_imm8 imm8) := rfl
theorem WellFormed.orB_A : WellFormed.Statement (.orB_A) := rfl
theorem WellFormed.orB_C : WellFormed.Statement (.orB_C) := rfl
theorem WellFormed.orB_D : WellFormed.Statement (.orB_D) := rfl
theorem WellFormed.addAB_imm16 (imm16 : Word) : WellFormed.Statement (.addAB_imm16 imm16) := rfl
theorem WellFormed.addAB_CD : WellFormed.Statement (.addAB_CD) := rfl
theorem WellFormed.addCD_imm16 (imm16 : Word) : WellFormed.Statement (.addCD_imm16 imm16) := rfl
theorem WellFormed.addCD_AB : WellFormed.Statement (.addCD_AB) := rfl
theorem WellFormed.addSP_imm16 (imm16 : Word) : WellFormed.Statement (.addSP_imm16 imm16) := rfl
theorem WellFormed.addSP_AB : WellFormed.Statement (.addSP_AB) := rfl
theorem WellFormed.addSP_CD : WellFormed.Statement (.addSP_CD) := rfl
theorem WellFormed.subAB_imm16 (imm16 : Word) : WellFormed.Statement (.subAB_imm16 imm16) := rfl
theorem WellFormed.subAB_CD : WellFormed.Statement (.subAB_CD) := rfl
theorem WellFormed.subCD_imm16 (imm16 : Word) : WellFormed.Statement (.subCD_imm16 imm16) := rfl
theorem WellFormed.subCD_AB : WellFormed.Statement (.subCD_AB) := rfl
theorem WellFormed.subSP_imm16 (imm16 : Word) : WellFormed.Statement (.subSP_imm16 imm16) := rfl
theorem WellFormed.subSP_AB : WellFormed.Statement (.subSP_AB) := rfl
theorem WellFormed.subSP_CD : WellFormed.Statement (.subSP_CD) := rfl
theorem WellFormed.mulA_D : WellFormed.Statement (.mulA_D) := rfl
theorem WellFormed.imulA_D : WellFormed.Statement (.imulA_D) := rfl
theorem WellFormed.divAB_D : WellFormed.Statement (.divAB_D) := rfl
theorem WellFormed.idivAB_D : WellFormed.Statement (.idivAB_D) := rfl
theorem WellFormed.expA_B : WellFormed.Statement (.expA_B) := rfl
theorem WellFormed.jr_rel8 (rel8 : Byte) : WellFormed.Statement (.jr_rel8 rel8) := rfl
theorem WellFormed.jrA : WellFormed.Statement (.jrA) := rfl
theorem WellFormed.jrB : WellFormed.Statement (.jrB) := rfl
theorem WellFormed.js_rel8 (rel8 : Byte) : WellFormed.Statement (.js_rel8 rel8) := rfl
theorem WellFormed.jp_rel8 (rel8 : Byte) : WellFormed.Statement (.jp_rel8 rel8) := rfl
theorem WellFormed.jo_rel8 (rel8 : Byte) : WellFormed.Statement (.jo_rel8 rel8) := rfl
theorem WellFormed.jc_rel8 (rel8 : Byte) : WellFormed.Statement (.jc_rel8 rel8) := rfl
theorem WellFormed.jz_rel8 (rel8 : Byte) : WellFormed.Statement (.jz_rel8 rel8) := rfl
theorem WellFormed.jns_rel8 (rel8 : Byte) : WellFormed.Statement (.jns_rel8 rel8) := rfl
theorem WellFormed.jnp_rel8 (rel8 : Byte) : WellFormed.Statement (.jnp_rel8 rel8) := rfl
theorem WellFormed.jno_rel8 (rel8 : Byte) : WellFormed.Statement (.jno_rel8 rel8) := rfl
theorem WellFormed.jnc_rel8 (rel8 : Byte) : WellFormed.Statement (.jnc_rel8 rel8) := rfl
theorem WellFormed.jnz_rel8 (rel8 : Byte) : WellFormed.Statement (.jnz_rel8 rel8) := rfl
theorem WellFormed.jzc_rel8 (rel8 : Byte) : WellFormed.Statement (.jzc_rel8 rel8) := rfl
theorem WellFormed.jso_rel8 (rel8 : Byte) : WellFormed.Statement (.jso_rel8 rel8) := rfl
theorem WellFormed.jsonz_rel8 (rel8 : Byte) : WellFormed.Statement (.jsonz_rel8 rel8) := rfl
theorem WellFormed.jnzc_rel8 (rel8 : Byte) : WellFormed.Statement (.jnzc_rel8 rel8) := rfl
theorem WellFormed.jnso_rel8 (rel8 : Byte) : WellFormed.Statement (.jnso_rel8 rel8) := rfl
theorem WellFormed.jznso_rel8 (rel8 : Byte) : WellFormed.Statement (.jznso_rel8 rel8) := rfl
theorem WellFormed.jeqzA_rel8 (rel8 : Byte) : WellFormed.Statement (.jeqzA_rel8 rel8) := rfl
theorem WellFormed.jeqzB_rel8 (rel8 : Byte) : WellFormed.Statement (.jeqzB_rel8 rel8) := rfl
theorem WellFormed.jeqzC_rel8 (rel8 : Byte) : WellFormed.Statement (.jeqzC_rel8 rel8) := rfl
theorem WellFormed.jeqzD_rel8 (rel8 : Byte) : WellFormed.Statement (.jeqzD_rel8 rel8) := rfl
theorem WellFormed.jneqzA_rel8 (rel8 : Byte) : WellFormed.Statement (.jneqzA_rel8 rel8) := rfl
theorem WellFormed.jneqzB_rel8 (rel8 : Byte) : WellFormed.Statement (.jneqzB_rel8 rel8) := rfl
theorem WellFormed.jneqzC_rel8 (rel8 : Byte) : WellFormed.Statement (.jneqzC_rel8 rel8) := rfl
theorem WellFormed.jneqzD_rel8 (rel8 : Byte) : WellFormed.Statement (.jneqzD_rel8 rel8) := rfl
theorem WellFormed.loopA_rel8 (rel8 : Byte) : WellFormed.Statement (.loopA_rel8 rel8) := rfl
theorem WellFormed.loopB_rel8 (rel8 : Byte) : WellFormed.Statement (.loopB_rel8 rel8) := rfl
theorem WellFormed.loopC_rel8 (rel8 : Byte) : WellFormed.Statement (.loopC_rel8 rel8) := rfl
theorem WellFormed.loopD_rel8 (rel8 : Byte) : WellFormed.Statement (.loopD_rel8 rel8) := rfl
theorem WellFormed.jmp_imm16 (imm16 : Word) : WellFormed.Statement (.jmp_imm16 imm16) := rfl
theorem WellFormed.jmpAB : WellFormed.Statement (.jmpAB) := rfl
theorem WellFormed.jmpCD : WellFormed.Statement (.jmpCD) := rfl
theorem WellFormed.call_imm16 (imm16 : Word) : WellFormed.Statement (.call_imm16 imm16) := rfl
theorem WellFormed.callAB : WellFormed.Statement (.callAB) := rfl
theorem WellFormed.callCD : WellFormed.Statement (.callCD) := rfl
theorem WellFormed.ret : WellFormed.Statement (.ret) := rfl
theorem WellFormed.clc : WellFormed.Statement (.clc) := rfl
theorem WellFormed.cmc : WellFormed.Statement (.cmc) := rfl
theorem WellFormed.stc : WellFormed.Statement (.stc) := rfl
theorem WellFormed.halt : WellFormed.Statement (.halt) := rfl
theorem WellFormed.nop : WellFormed.Statement (.nop) := rfl

end Sys2Proof.Laws
end

