-- ==== Sys2Proof/Tests/Slice0.lean ====
section
/-! SUPPORT. Tests: ill-formed instructions refused, a word for every instruction written out from the spec, steps of the spec's
own test vectors (spec/95_test_vectors.md), and states that meet the hypotheses of the statements. -/

namespace Sys2Proof.Tests

open Sys2Proof Sys2Proof.Machine

/-! ### WellFormed refuses -/

/-- Instructions as written that no family has are refused, one or more for each check. -/
def refused (m : Mnemonic) (operands : List Operand) : Bool := !(Asm.wellFormed { mnemonic := m, operands := operands })

/-- An 8-bit register operand. -/
def r8 (r : Reg) : Operand := .byte (.loc (.reg r))

/-- An 8-bit memory operand. -/
def m8 (m : AddrForm) : Operand := .byte (.loc (.mem m))

/-- A 16-bit pair operand. -/
def r16 (p : Pair) : Operand := .word (.loc (.pair p))

/-- A 16-bit memory operand. -/
def m16 (m : AddrForm) : Operand := .word (.loc (.mem m))

/-- `SP` as an operand. -/
def sp16 : Operand := .word (.loc .sp)

/-- R101: a general register other than the one that receives the value. -/
theorem test_refused_mov8_same_register : refused .mov [r8 .A, r8 .A] = true := by decide
/-- R102: a register not involved in the address. -/
theorem test_refused_mov8_store_through_own_pair : refused .mov [m8 (.implicit .AB), r8 .A] = true := by decide
/-- R102. -/
theorem test_refused_mov8_indexed_store_through_own_pair : refused .mov [m8 (.indexed .CD 1), r8 .D] = true := by decide
/-- R102: an immediate only to `[addr16]`. -/
theorem test_refused_mov8_immediate_to_implicit : refused .mov [m8 (.implicit .AB), .byte (.imm 0)] = true := by decide
/-- R101, R102. -/
theorem test_refused_mov8_memory_to_memory : refused .mov [m8 (.direct 0), m8 (.direct 1)] = true := by decide
/-- R17: `F` is the operand of `PUSH` and `POP` alone. -/
theorem test_refused_mov8_flags : refused .mov [r8 .A, .byte (.loc .flags)] = true := by decide
/-- R161: no `MOV AB, AB`. -/
theorem test_refused_mov16_same_pair : refused .mov [r16 .AB, r16 .AB] = true := by decide
/-- R161: no `MOV SP, SP`. -/
theorem test_refused_mov16_sp_sp : refused .mov [sp16, sp16] = true := by decide
/-- R161: no `MOV SP, [AB]`. -/
theorem test_refused_mov16_sp_implicit : refused .mov [sp16, m16 (.implicit .AB)] = true := by decide
/-- R161: no `MOV [AB], SP`. -/
theorem test_refused_mov16_implicit_sp : refused .mov [m16 (.implicit .AB), sp16] = true := by decide
/-- R161. -/
theorem test_refused_mov16_store_through_own_pair : refused .mov [m16 (.indexed .AB 2), r16 .AB] = true := by decide
/-- R100, R160. -/
theorem test_refused_mov_mixed_widths : refused .mov [r8 .A, r16 .CD] = true := by decide
/-- R190: `A` or `B`. -/
theorem test_refused_in_c : refused .in [r8 .C] = true := by decide
/-- R190. -/
theorem test_refused_out_immediate : refused .out [.byte (.imm 1)] = true := by decide
/-- R192: `SP` cannot be pushed. -/
theorem test_refused_push_sp : refused .push [sp16] = true := by decide
/-- R191: the immediate mode only. -/
theorem test_refused_pop_implicit : refused .pop [m8 (.implicit .CD)] = true := by decide
/-- R191. -/
theorem test_refused_push_immediate : refused .push [.byte (.imm 0)] = true := by decide
/-- R221: the immediate mode only. -/
theorem test_refused_inc_implicit : refused .inc [m8 (.implicit .AB)] = true := by decide
/-- R222: `A` or `B`. -/
theorem test_refused_not_c : refused .not [r8 .C] = true := by decide
/-- R222: only `AB`. -/
theorem test_refused_shl_cd : refused .shl [r16 .CD] = true := by decide
/-- R222. -/
theorem test_refused_rr_sp : refused .rr [sp16] = true := by decide
/-- R270: no `ADD A, A`. -/
theorem test_refused_add_same_register : refused .add [r8 .A, r8 .A] = true := by decide
/-- R270: no `ADD C, ...`. -/
theorem test_refused_add_c : refused .add [r8 .C, r8 .A] = true := by decide
/-- R270: no `ADD A, [addr16]`. -/
theorem test_refused_add_memory : refused .add [r8 .A, m8 (.direct 0)] = true := by decide
/-- R340: `SP` is never the second operand. -/
theorem test_refused_add_pair_sp : refused .add [r16 .AB, sp16] = true := by decide
/-- R340. -/
theorem test_refused_sub_same_pair : refused .sub [r16 .CD, r16 .CD] = true := by decide
/-- R340: no 16-bit `CMP`. -/
theorem test_refused_cmp_pairs : refused .cmp [r16 .AB, r16 .CD] = true := by decide
/-- R341: the second factor is `D`. -/
theorem test_refused_mul_b : refused .mul [r8 .A, r8 .B] = true := by decide
/-- R341: the divisor is `D`. -/
theorem test_refused_div_c : refused .div [r16 .AB, r8 .C] = true := by decide
/-- R363: `A` from `B`. -/
theorem test_refused_exp_swapped : refused .exp [r8 .B, r8 .A] = true := by decide
/-- R10: the offset register of `JR` is `A` or `B`. -/
theorem test_refused_jr_c : refused .jr [r8 .C] = true := by decide
/-- R373: an 8-bit offset. -/
theorem test_refused_jz_register : refused .jz [r8 .A] = true := by decide
/-- R401: a register and an offset. -/
theorem test_refused_loop_no_register : refused .loop [.rel8 0] = true := by decide
/-- R372: an immediate or a pair. -/
theorem test_refused_jmp_sp : refused .jmp [sp16] = true := by decide
/-- R372. -/
theorem test_refused_call_relative : refused .call [.rel8 0] = true := by decide
/-- R411: no operand. -/
theorem test_refused_ret_operand : refused .ret [.word (.imm 0)] = true := by decide
/-- R420: no operand. -/
theorem test_refused_halt_operand : refused .halt [r8 .A] = true := by decide

/-! ### Every instruction's word, its bytes as the example of its rule in spec/40_mov8.md to spec/47_control.md writes them -/

/-- Whether the decoder reads this instruction from these bytes, and the encoder gives the bytes back. -/
def reads (p : List Byte × Instr) : Bool :=
  (match decode p.1 with
    | .ok i => i == p.2
    | .error _ => false) && encode p.2 == p.1

/-- R105 to R140. -/
theorem test_words_mov8_loads : ([
    ([0x00, 0x5A], .movA_imm8 0x5A), ([0x01], .movA_B), ([0x02], .movA_C), ([0x03], .movA_D), ([0x04, 0x20, 0x40],
    .movA_atAddr 0x2040), ([0x05], .movA_atAB), ([0x06], .movA_atCD), ([0x07, 0x00, 0x10], .movA_atABdisp 0x0010), ([0x08,
    0x00, 0x10], .movA_atCDdisp 0x0010), ([0x09, 0x5A], .movB_imm8 0x5A), ([0x0A], .movB_A), ([0x0B], .movB_C), ([0x0C],
    .movB_D), ([0x0D, 0x20, 0x40], .movB_atAddr 0x2040), ([0x0E], .movB_atAB), ([0x0F], .movB_atCD), ([0x10, 0x00, 0x10],
    .movB_atABdisp 0x0010), ([0x11, 0x00, 0x10], .movB_atCDdisp 0x0010), ([0x12, 0x5A], .movC_imm8 0x5A), ([0x13],
    .movC_A), ([0x14], .movC_B), ([0x15], .movC_D), ([0x16, 0x20, 0x40], .movC_atAddr 0x2040), ([0x17], .movC_atAB),
    ([0x18], .movC_atCD), ([0x19, 0x00, 0x10], .movC_atABdisp 0x0010), ([0x1A, 0x00, 0x10], .movC_atCDdisp 0x0010),
    ([0x1B, 0x5A], .movD_imm8 0x5A), ([0x1C], .movD_A), ([0x1D], .movD_B), ([0x1E], .movD_C), ([0x1F, 0x20, 0x40],
    .movD_atAddr 0x2040), ([0x20], .movD_atAB), ([0x21], .movD_atCD), ([0x22, 0x00, 0x10], .movD_atABdisp 0x0010), ([0x23,
    0x00, 0x10], .movD_atCDdisp 0x0010)] :
    List (List Byte × Instr)).all reads = true := by decide

/-- R141 to R153. -/
theorem test_words_mov8_stores : ([
    ([0x24, 0x20, 0x40], .movAtAddr_A 0x2040), ([0x25, 0x20, 0x40], .movAtAddr_B 0x2040), ([0x26, 0x20, 0x40],
    .movAtAddr_C 0x2040), ([0x27, 0x20, 0x40], .movAtAddr_D 0x2040), ([0x28], .movAtAB_C), ([0x29], .movAtAB_D), ([0x2A],
    .movAtCD_A), ([0x2B], .movAtCD_B), ([0x2C, 0x00, 0x10], .movAtABdisp_C 0x0010), ([0x2D, 0x00, 0x10], .movAtABdisp_D
    0x0010), ([0x2E, 0x00, 0x10], .movAtCDdisp_A 0x0010), ([0x2F, 0x00, 0x10], .movAtCDdisp_B 0x0010), ([0x30, 0x20, 0x40,
    0x5A], .movAtAddr_imm8 0x2040 0x5A)] :
    List (List Byte × Instr)).all reads = true := by decide

/-- R163 to R189. -/
theorem test_words_mov16 : ([
    ([0x31, 0x12, 0x34], .movAB_imm16 0x1234), ([0x32, 0x20, 0x40], .movAB_atAddr 0x2040), ([0x33], .movAB_atAB), ([0x34],
    .movAB_atCD), ([0x35, 0x00, 0x10], .movAB_atABdisp 0x0010), ([0x36, 0x00, 0x10], .movAB_atCDdisp 0x0010), ([0x37],
    .movAB_CD), ([0x38], .movAB_SP), ([0x39, 0x12, 0x34], .movCD_imm16 0x1234), ([0x3A, 0x20, 0x40], .movCD_atAddr
    0x2040), ([0x3B], .movCD_atAB), ([0x3C], .movCD_atCD), ([0x3D, 0x00, 0x10], .movCD_atABdisp 0x0010), ([0x3E, 0x00,
    0x10], .movCD_atCDdisp 0x0010), ([0x3F], .movCD_AB), ([0x40], .movCD_SP), ([0x41, 0x12, 0x34], .movSP_imm16 0x1234),
    ([0x42, 0x20, 0x40], .movSP_atAddr 0x2040), ([0x43], .movSP_AB), ([0x44], .movSP_CD), ([0x45, 0x20, 0x40],
    .movAtAddr_AB 0x2040), ([0x46, 0x20, 0x40], .movAtAddr_CD 0x2040), ([0x47, 0x20, 0x40], .movAtAddr_SP 0x2040),
    ([0x48], .movAtAB_CD), ([0x49], .movAtCD_AB), ([0x4A, 0x00, 0x10], .movAtABdisp_CD 0x0010), ([0x4B, 0x00, 0x10],
    .movAtCDdisp_AB 0x0010)] :
    List (List Byte × Instr)).all reads = true := by decide

/-- R195 to R214. -/
theorem test_words_io_stack : ([
    ([0x4C], .inA), ([0x4D], .inB), ([0x4E], .outA), ([0x4F], .outB), ([0x50], .pushA), ([0x51], .pushB), ([0x52],
    .pushC), ([0x53], .pushD), ([0x54], .pushF), ([0x55, 0x20, 0x40], .pushAtAddr 0x2040), ([0x56], .popA), ([0x57],
    .popB), ([0x58], .popC), ([0x59], .popD), ([0x5A], .popF), ([0x5B, 0x20, 0x40], .popAtAddr 0x2040), ([0x5C], .pushAB),
    ([0x5D], .pushCD), ([0x5E], .popAB), ([0x5F], .popCD)] :
    List (List Byte × Instr)).all reads = true := by decide

/-- R225 to R258. -/
theorem test_words_unary : ([
    ([0x60], .decA), ([0x61], .decB), ([0x62], .decC), ([0x63], .decD), ([0x64, 0x20, 0x40], .decAtAddr 0x2040), ([0x65],
    .incA), ([0x66], .incB), ([0x67], .incC), ([0x68], .incD), ([0x69, 0x20, 0x40], .incAtAddr 0x2040), ([0x6A], .decAB),
    ([0x6B], .decCD), ([0x6C], .decSP), ([0x6D], .incAB), ([0x6E], .incCD), ([0x6F], .incSP), ([0x70], .notA), ([0x71],
    .notB), ([0x72], .negA), ([0x73], .negB), ([0x74], .shlA), ([0x75], .shlB), ([0x76], .shrA), ([0x77], .shrB), ([0x78],
    .rlA), ([0x79], .rlB), ([0x7A], .rrA), ([0x7B], .rrB), ([0x7C], .notAB), ([0x7D], .negAB), ([0x7E], .shlAB), ([0x7F],
    .shrAB), ([0x80], .rlAB), ([0x81], .rrAB)] :
    List (List Byte × Instr)).all reads = true := by decide

/-- R275 to R306. -/
theorem test_words_binary8_sub_add_sbb_adc : ([
    ([0x82, 0x01], .subA_imm8 0x01), ([0x83], .subA_B), ([0x84], .subA_C), ([0x85], .subA_D), ([0x86, 0x01], .subB_imm8
    0x01), ([0x87], .subB_A), ([0x88], .subB_C), ([0x89], .subB_D), ([0x8A, 0x01], .addA_imm8 0x01), ([0x8B], .addA_B),
    ([0x8C], .addA_C), ([0x8D], .addA_D), ([0x8E, 0x01], .addB_imm8 0x01), ([0x8F], .addB_A), ([0x90], .addB_C), ([0x91],
    .addB_D), ([0x92, 0x01], .sbbA_imm8 0x01), ([0x93], .sbbA_B), ([0x94], .sbbA_C), ([0x95], .sbbA_D), ([0x96, 0x01],
    .sbbB_imm8 0x01), ([0x97], .sbbB_A), ([0x98], .sbbB_C), ([0x99], .sbbB_D), ([0x9A, 0x01], .adcA_imm8 0x01), ([0x9B],
    .adcA_B), ([0x9C], .adcA_C), ([0x9D], .adcA_D), ([0x9E, 0x01], .adcB_imm8 0x01), ([0x9F], .adcB_A), ([0xA0], .adcB_C),
    ([0xA1], .adcB_D)] :
    List (List Byte × Instr)).all reads = true := by decide

/-- R307 to R338. -/
theorem test_words_binary8_cmp_and_xor_or : ([
    ([0xA2, 0x01], .cmpA_imm8 0x01), ([0xA3], .cmpA_B), ([0xA4], .cmpA_C), ([0xA5], .cmpA_D), ([0xA6, 0x01], .cmpB_imm8
    0x01), ([0xA7], .cmpB_A), ([0xA8], .cmpB_C), ([0xA9], .cmpB_D), ([0xAA, 0x01], .andA_imm8 0x01), ([0xAB], .andA_B),
    ([0xAC], .andA_C), ([0xAD], .andA_D), ([0xAE, 0x01], .andB_imm8 0x01), ([0xAF], .andB_A), ([0xB0], .andB_C), ([0xB1],
    .andB_D), ([0xB2, 0x01], .xorA_imm8 0x01), ([0xB3], .xorA_B), ([0xB4], .xorA_C), ([0xB5], .xorA_D), ([0xB6, 0x01],
    .xorB_imm8 0x01), ([0xB7], .xorB_A), ([0xB8], .xorB_C), ([0xB9], .xorB_D), ([0xBA, 0x01], .orA_imm8 0x01), ([0xBB],
    .orA_B), ([0xBC], .orA_C), ([0xBD], .orA_D), ([0xBE, 0x01], .orB_imm8 0x01), ([0xBF], .orB_A), ([0xC0], .orB_C),
    ([0xC1], .orB_D)] :
    List (List Byte × Instr)).all reads = true := by decide

/-- R345 to R363. -/
theorem test_words_alu16_muldiv : ([
    ([0xC2, 0x00, 0x01], .addAB_imm16 0x0001), ([0xC3], .addAB_CD), ([0xC4, 0x00, 0x01], .addCD_imm16 0x0001), ([0xC5],
    .addCD_AB), ([0xC6, 0x00, 0x01], .addSP_imm16 0x0001), ([0xC7], .addSP_AB), ([0xC8], .addSP_CD), ([0xC9, 0x00, 0x01],
    .subAB_imm16 0x0001), ([0xCA], .subAB_CD), ([0xCB, 0x00, 0x01], .subCD_imm16 0x0001), ([0xCC], .subCD_AB), ([0xCD,
    0x00, 0x01], .subSP_imm16 0x0001), ([0xCE], .subSP_AB), ([0xCF], .subSP_CD), ([0xD0], .mulA_D), ([0xD1], .imulA_D),
    ([0xD2], .divAB_D), ([0xD3], .idivAB_D), ([0xD4], .expA_B)] :
    List (List Byte × Instr)).all reads = true := by decide

/-- R374 to R411. -/
theorem test_words_branches : ([
    ([0xD5, 0x10], .jr_rel8 0x10), ([0xD6], .jrA), ([0xD7], .jrB), ([0xD8, 0x10], .js_rel8 0x10), ([0xD9, 0x10], .jp_rel8
    0x10), ([0xDA, 0x10], .jo_rel8 0x10), ([0xDB, 0x10], .jc_rel8 0x10), ([0xDC, 0x10], .jz_rel8 0x10), ([0xDD, 0x10],
    .jns_rel8 0x10), ([0xDE, 0x10], .jnp_rel8 0x10), ([0xDF, 0x10], .jno_rel8 0x10), ([0xE0, 0x10], .jnc_rel8 0x10),
    ([0xE1, 0x10], .jnz_rel8 0x10), ([0xE2, 0x10], .jzc_rel8 0x10), ([0xE3, 0x10], .jso_rel8 0x10), ([0xE4, 0x10],
    .jsonz_rel8 0x10), ([0xE5, 0x10], .jnzc_rel8 0x10), ([0xE6, 0x10], .jnso_rel8 0x10), ([0xE7, 0x10], .jznso_rel8 0x10),
    ([0xE8, 0x10], .jeqzA_rel8 0x10), ([0xE9, 0x10], .jeqzB_rel8 0x10), ([0xEA, 0x10], .jeqzC_rel8 0x10), ([0xEB, 0x10],
    .jeqzD_rel8 0x10), ([0xEC, 0x10], .jneqzA_rel8 0x10), ([0xED, 0x10], .jneqzB_rel8 0x10), ([0xEE, 0x10], .jneqzC_rel8
    0x10), ([0xEF, 0x10], .jneqzD_rel8 0x10), ([0xF0, 0x10], .loopA_rel8 0x10), ([0xF1, 0x10], .loopB_rel8 0x10), ([0xF2,
    0x10], .loopC_rel8 0x10), ([0xF3, 0x10], .loopD_rel8 0x10), ([0xF4, 0x30, 0x00], .jmp_imm16 0x3000), ([0xF5], .jmpAB),
    ([0xF6], .jmpCD), ([0xF7, 0x30, 0x00], .call_imm16 0x3000), ([0xF8], .callAB), ([0xF9], .callCD), ([0xFA], .ret)] :
    List (List Byte × Instr)).all reads = true := by decide

/-- R421 to R425. -/
theorem test_words_control : ([
    ([0xFB], .clc), ([0xFC], .cmc), ([0xFD], .stc), ([0xFE], .halt), ([0xFF], .nop)] :
    List (List Byte × Instr)).all reads = true := by decide

/-- Bytes after the instruction are not read (R75), and fewer bytes than the format has are refused by name. -/
theorem test_decode_ends : decode [0xFF, 0x12] = .ok .nop ∧ decode [0x30, 0x20, 0x40] = .error .truncated ∧ decode [] = .error .truncated :=
  ⟨rfl, rfl, rfl⟩

/-- A table word: the first byte in its low bits, operand bytes of zeros above. -/
theorem test_table_word : decodeTableWord 8 0x30 = some (.movAtAddr_imm8 0x0000 0x00) ∧ decodeTableWord 8 0xF7 = some (.call_imm16 0x0000) :=
  ⟨rfl, rfl⟩

/-! ### Steps: the vectors of spec/95_test_vectors.md -/

/-- A state at `0x0100`, the opcode and operand bytes there. -/
def start (bytes : List Byte) : State :=
  { a := 0x12, b := 0x34, c := 0x56, d := 0x78, sp := 0x8000, ip := 0x0100,
    flags := { sign := false, parity := true, overflow := false, carry := true, zero := false },
    mem := Memory.putBytes [] 0x0100 bytes, input := [], output := [], halted := false, flagDraws := 0, inputDraws := 0 }

/-- The same with more memory. -/
def holding (s : State) (cells : List Host.Cell) : State :=
  { s with mem := cells.foldl (fun m x => Memory.put m x.1 x.2) s.mem }

/-- The flags `S`, `P`, `O`, `C`, `Z`. -/
def spocz (s p o c z : Bool) : Flags := { sign := s, parity := p, overflow := o, carry := c, zero := z }

/-- Whether an outcome is a next state with a property. -/
def gives (r : Res State) (p : State → Bool) : Bool :=
  match r with
  | .next t => p t
  | _ => false

/-- Whether an outcome is this fault. -/
def stops (r : Res State) (f : Fault) : Bool :=
  match r with
  | .fault g => f == g
  | _ => false

theorem test_v1_mov_a_ff : gives (step (start [0x00, 0xFF]))
    (fun t => t.a == 0xFF && t.flags == (start []).flags && t.ip == 0x0102) = true := by decide
theorem test_v5_mov_a_ab : gives (step (holding { start [0x05] with a := 0x20, b := 0x40 } [(0x2040, 0xC3)]))
    (fun t => t.a == 0xC3 && t.flags == (start []).flags && t.ip == 0x0101) = true := by decide
theorem test_v7_mov_d_ab_ffff : gives (step (holding { start [0x22, 0xFF, 0xFF] with a := 0x20, b := 0x41 } [(0x2040, 0x5B)]))
    (fun t => t.d == 0x5B && t.flags == (start []).flags && t.ip == 0x0103) = true := by decide
theorem test_v12_mov_2040_5a : gives (step (start [0x30, 0x20, 0x40, 0x5A]))
    (fun t => t.flags == (start []).flags && t.peek 0x2040 == some 0x5A && t.ip == 0x0104) = true := by decide
theorem test_v13_mov_0102_a : gives (step { start [0x24, 0x01, 0x02] with a := 0x99 })
    (fun t => t.flags == (start []).flags && t.peek 0x0102 == some 0x99 && t.ip == 0x0103) = true := by decide
theorem test_v17_mov_cd_ffff : gives (step (holding (start [0x3A, 0xFF, 0xFF]) [(0xFFFF, 0x12), (0x0000, 0x34)]))
    (fun t => t.c == 0x12 && t.d == 0x34 && t.flags == (start []).flags && t.ip == 0x0103) = true := by decide
theorem test_v18_mov_ab_ab : gives (step (holding { start [0x33] with a := 0x20, b := 0x40 } [(0x2040, 0x11), (0x2041, 0x22)]))
    (fun t => t.a == 0x11 && t.b == 0x22 && t.flags == (start []).flags && t.ip == 0x0101) = true := by decide
theorem test_v21_mov_cd_sp : gives (step { start [0x40] with sp := 0x8000 })
    (fun t => t.c == 0x80 && t.d == 0x00 && t.flags == (start []).flags && t.ip == 0x0101) = true := by decide
theorem test_v24_mov_sp_2040 : gives (step (holding (start [0x42, 0x20, 0x40]) [(0x2040, 0x80), (0x2041, 0x00)]))
    (fun t => t.sp == 0x8000 && t.flags == (start []).flags && t.ip == 0x0103) = true := by decide
theorem test_v26_mov_2040_sp : gives (step { start [0x47, 0x20, 0x40] with sp := 0x7FFE })
    (fun t => t.flags == (start []).flags && t.peek 0x2040 == some 0x7F && t.peek 0x2041 == some 0xFE && t.ip == 0x0103) = true := by decide
theorem test_v28_mov_cd_0010_ab : gives (step { start [0x4B, 0x00, 0x10] with a := 0xBE, b := 0xEF, c := 0xFF, d := 0xF0 })
    (fun t => t.flags == (start []).flags && t.peek 0x0000 == some 0xBE && t.peek 0x0001 == some 0xEF && t.ip == 0x0103) = true := by decide
theorem test_v29_in_a : gives (step { start [0x4C] with input := [0x99] })
    (fun t => t.a == 0x99 && t.flags == (start []).flags && t.ip == 0x0101) = true := by decide
theorem test_v30_out_b : gives (step { start [0x4F] with b := 0x40 })
    (fun t => t.flags == (start []).flags && t.output == [0x40] && t.ip == 0x0101) = true := by decide
theorem test_v32_push_a : gives (step { start [0x50] with a := 0x20, sp := 0x0000 })
    (fun t => t.sp == 0xFFFF && t.flags == (start []).flags && t.peek 0xFFFF == some 0x20 && t.ip == 0x0101) = true := by decide
theorem test_v33_push_2040 : gives (step (holding { start [0x55, 0x20, 0x40] with sp := 0x8000 } [(0x2040, 0xA7)]))
    (fun t => t.sp == 0x7FFF && t.flags == (start []).flags && t.peek 0x7FFF == some 0xA7 && t.ip == 0x0103) = true := by decide
theorem test_v35_push_cd : gives (step { start [0x5D] with c := 0x30, d := 0x50, sp := 0x0001 })
    (fun t => t.sp == 0xFFFF && t.flags == (start []).flags && t.peek 0x0000 == some 0x50 && t.peek 0xFFFF == some 0x30 && t.ip == 0x0101) = true := by decide
theorem test_v36_push_f : gives (step { start [0x54] with sp := 0x8000, flags := { (start []).flags with sign := true, parity := false, overflow := false, carry := true, zero := false } })
    (fun t => t.sp == 0x7FFF && t.flags == { (start []).flags with sign := true, parity := false, overflow := false, carry := true, zero := false } && t.peek 0x7FFF == some 0x12 && t.ip == 0x0101) = true := by decide
theorem test_v39_pop_2040 : gives (step (holding { start [0x5B, 0x20, 0x40] with sp := 0x7FFF } [(0x7FFF, 0xC3)]))
    (fun t => t.sp == 0x8000 && t.flags == (start []).flags && t.peek 0x2040 == some 0xC3 && t.ip == 0x0103) = true := by decide
theorem test_v41_pop_ab : gives (step (holding { start [0x5E] with sp := 0xFFFF } [(0xFFFF, 0x12), (0x0000, 0x34)]))
    (fun t => t.a == 0x12 && t.b == 0x34 && t.sp == 0x0001 && t.flags == (start []).flags && t.ip == 0x0101) = true := by decide
theorem test_v43_pop_f : gives (step (holding { start [0x5A] with sp := 0x7FFF, flags := { (start []).flags with sign := true, parity := true, overflow := true, carry := true, zero := true } } [(0x7FFF, 0xE5)]))
    (fun t => t.sp == 0x8000 && t.flags == spocz false false true false true && t.ip == 0x0101) = true := by decide
theorem test_v45_inc_a : gives (step { start [0x65] with a := 0xFF, flags := { (start []).flags with carry := false } })
    (fun t => t.a == 0x00 && t.flags == spocz false true false false true && t.ip == 0x0101) = true := by decide
theorem test_v48_dec_b : gives (step { start [0x61] with b := 0x80, flags := { (start []).flags with carry := true } })
    (fun t => t.b == 0x7F && t.flags == spocz false false true true false && t.ip == 0x0101) = true := by decide
theorem test_v50_inc_2040 : gives (step (holding { start [0x69, 0x20, 0x40] with flags := { (start []).flags with carry := true } } [(0x2040, 0xFF)]))
    (fun t => t.flags == spocz false true false true true && t.peek 0x2040 == some 0x00 && t.ip == 0x0103) = true := by decide
theorem test_v52_inc_ab : gives (step { start [0x6D] with a := 0x00, b := 0xFF })
    (fun t => t.a == 0x01 && t.b == 0x00 && t.flags.sign == false && t.flags.parity == true && t.flags.overflow == false && t.flags.zero == false && t.ip == 0x0101) = true := by decide
theorem test_v53_inc_cd : gives (step { start [0x6E] with c := 0x7F, d := 0xFF })
    (fun t => t.c == 0x80 && t.d == 0x00 && t.flags.sign == true && t.flags.parity == true && t.flags.overflow == true && t.flags.zero == false && t.ip == 0x0101) = true := by decide
theorem test_v54_inc_sp : gives (step { start [0x6F] with sp := 0xFFFF, flags := { (start []).flags with carry := true } })
    (fun t => t.sp == 0x0000 && t.flags == spocz false true false true true && t.ip == 0x0101) = true := by decide
theorem test_v56_dec_sp : gives (step { start [0x6C] with sp := 0x8000 })
    (fun t => t.sp == 0x7FFF && t.flags.sign == false && t.flags.parity == true && t.flags.overflow == true && t.flags.zero == false && t.ip == 0x0101) = true := by decide
theorem test_v57_not_a : gives (step { start [0x70] with a := 0xA5, flags := { (start []).flags with zero := true } })
    (fun t => t.a == 0x5A && t.flags == { (start []).flags with zero := true } && t.ip == 0x0101) = true := by decide
theorem test_v58_not_ab : gives (step { start [0x7C] with a := 0x00, b := 0xFF })
    (fun t => t.a == 0xFF && t.b == 0x00 && t.flags == (start []).flags && t.ip == 0x0101) = true := by decide
theorem test_v60_neg_a : gives (step { start [0x72] with a := 0x80 })
    (fun t => t.a == 0x80 && t.flags == spocz true false true true false && t.ip == 0x0101) = true := by decide
theorem test_v62_neg_ab : gives (step { start [0x7D] with a := 0x80, b := 0x00 })
    (fun t => t.a == 0x80 && t.b == 0x00 && t.flags == spocz true true true true false && t.ip == 0x0101) = true := by decide
theorem test_v65_shl_a : gives (step { start [0x74] with a := 0x40 })
    (fun t => t.a == 0x80 && t.flags == spocz true false true false false && t.ip == 0x0101) = true := by decide
theorem test_v67_shl_ab : gives (step { start [0x7E] with a := 0x80, b := 0x01 })
    (fun t => t.a == 0x00 && t.b == 0x02 && t.flags == spocz false false true true false && t.ip == 0x0101) = true := by decide
theorem test_v69_shr_a : gives (step { start [0x76] with a := 0x80 })
    (fun t => t.a == 0x40 && t.flags == spocz false false true false false && t.ip == 0x0101) = true := by decide
theorem test_v70_shr_ab : gives (step { start [0x7F] with a := 0x01, b := 0x00 })
    (fun t => t.a == 0x00 && t.b == 0x80 && t.flags == spocz false false false false false && t.ip == 0x0101) = true := by decide
theorem test_v71_rl_a : gives (step { start [0x78] with a := 0x80, flags := { (start []).flags with sign := true, parity := false, overflow := false, carry := false, zero := false } })
    (fun t => t.a == 0x01 && t.flags == spocz true false true true false && t.ip == 0x0101) = true := by decide
theorem test_v72_rl_b : gives (step { start [0x79] with b := 0x41, flags := { (start []).flags with carry := true } })
    (fun t => t.b == 0x82 && t.flags.overflow == true && t.flags.carry == false && t.ip == 0x0101) = true := by decide
theorem test_v73_rl_ab : gives (step { start [0x80] with a := 0x80, b := 0x00 })
    (fun t => t.a == 0x00 && t.b == 0x01 && t.flags.overflow == true && t.flags.carry == true && t.ip == 0x0101) = true := by decide
theorem test_v75_rr_b : gives (step { start [0x7B] with b := 0x02 })
    (fun t => t.b == 0x01 && t.flags.overflow == false && t.flags.carry == false && t.ip == 0x0101) = true := by decide
theorem test_v76_rr_ab : gives (step { start [0x81] with a := 0x00, b := 0x01 })
    (fun t => t.a == 0x80 && t.b == 0x00 && t.flags.overflow == true && t.flags.carry == true && t.ip == 0x0101) = true := by decide
theorem test_v79_add_b_a : gives (step { start [0x8F] with a := 0x80, b := 0x80 })
    (fun t => t.b == 0x00 && t.flags == spocz false true true true true && t.ip == 0x0101) = true := by decide
theorem test_v81_adc_a_d : gives (step { start [0x9D] with a := 0x7E, d := 0x01, flags := { (start []).flags with carry := true } })
    (fun t => t.a == 0x80 && t.flags == spocz true false true false false && t.ip == 0x0101) = true := by decide
theorem test_v84_sub_a_01 : gives (step { start [0x82, 0x01] with a := 0x80 })
    (fun t => t.a == 0x7F && t.flags == spocz false false true false false && t.ip == 0x0102) = true := by decide
theorem test_v86_sbb_a_d : gives (step { start [0x95] with a := 0x00, d := 0xFF, flags := { (start []).flags with carry := true } })
    (fun t => t.a == 0x00 && t.flags == spocz false true false true true && t.ip == 0x0101) = true := by decide
theorem test_v87_sbb_b_00 : gives (step { start [0x96, 0x00] with b := 0x00, flags := { (start []).flags with carry := true } })
    (fun t => t.b == 0xFF && t.flags == spocz true true false true false && t.ip == 0x0102) = true := by decide
theorem test_v90_cmp_b_a : gives (step { start [0xA7] with a := 0x80, b := 0x7F })
    (fun t => t.flags == spocz true true true true false && t.ip == 0x0101) = true := by decide
theorem test_v91_and_a_b : gives (step { start [0xAB] with a := 0xF0, b := 0x3C, flags := { (start []).flags with overflow := true, carry := true } })
    (fun t => t.a == 0x30 && t.flags == spocz false true false false false && t.ip == 0x0101) = true := by decide
theorem test_v93_or_b_d : gives (step { start [0xC1] with b := 0x80, d := 0x01 })
    (fun t => t.b == 0x81 && t.flags == spocz true true false false false && t.ip == 0x0101) = true := by decide
theorem test_v94_xor_a_c : gives (step { start [0xB4] with a := 0xFF, c := 0xFF })
    (fun t => t.a == 0x00 && t.flags == spocz false true false false true && t.ip == 0x0101) = true := by decide
theorem test_v97_add_ab_0001 : gives (step { start [0xC2, 0x00, 0x01] with a := 0x7F, b := 0xFF })
    (fun t => t.a == 0x80 && t.b == 0x00 && t.flags == spocz true true true false false && t.ip == 0x0103) = true := by decide
theorem test_v98_add_cd_ab : gives (step { start [0xC5] with a := 0x11, b := 0x11, c := 0x12, d := 0x34 })
    (fun t => t.c == 0x23 && t.d == 0x45 && t.flags == spocz false false false false false && t.ip == 0x0101) = true := by decide
theorem test_v100_add_sp_cd : gives (step { start [0xC8] with c := 0x00, d := 0x02, sp := 0xFFFF })
    (fun t => t.sp == 0x0001 && t.flags == spocz false false false true false && t.ip == 0x0101) = true := by decide
theorem test_v101_sub_ab_cd : gives (step { start [0xCA] with a := 0x00, b := 0x00, c := 0x00, d := 0x01 })
    (fun t => t.a == 0xFF && t.b == 0xFF && t.flags == spocz true true false true false && t.ip == 0x0101) = true := by decide
theorem test_v102_sub_cd_0001 : gives (step { start [0xCB, 0x00, 0x01] with c := 0x80, d := 0x00 })
    (fun t => t.c == 0x7F && t.d == 0xFF && t.flags == spocz false true true false false && t.ip == 0x0103) = true := by decide
theorem test_v103_sub_sp_ab : gives (step { start [0xCE] with a := 0x00, b := 0x10, sp := 0x8000 })
    (fun t => t.sp == 0x7FF0 && t.flags == spocz false true true false false && t.ip == 0x0101) = true := by decide
theorem test_v105_mul_a_d : gives (step { start [0xD0] with a := 0x10, d := 0x0F })
    (fun t => t.a == 0x00 && t.b == 0xF0 && t.flags.overflow == false && t.flags.carry == false && t.ip == 0x0101) = true := by decide
theorem test_v108_imul_a_d : gives (step { start [0xD1] with a := 0x80, d := 0x80 })
    (fun t => t.a == 0x40 && t.b == 0x00 && t.flags.overflow == true && t.flags.carry == true && t.ip == 0x0101) = true := by decide
theorem test_v109_imul_a_d : gives (step { start [0xD1] with a := 0xFF, d := 0x02 })
    (fun t => t.a == 0xFF && t.b == 0xFE && t.flags.overflow == false && t.flags.carry == false && t.ip == 0x0101) = true := by decide
theorem test_v112_div_ab_d : gives (step { start [0xD2] with a := 0xFE, b := 0xFF, d := 0xFF, flags := { (start []).flags with sign := false, parity := false, overflow := false, carry := false, zero := false } })
    (fun t => t.a == 0xFE && t.b == 0xFF && t.ip == 0x0101) = true := by decide
theorem test_v113_div_ab_d : stops (step { start [0xD2] with a := 0x01, b := 0x00, d := 0x01, flags := { (start []).flags with sign := false, parity := false, overflow := false, carry := false, zero := false } })
    (.divideError .overflow) = true := by decide
theorem test_v114_div_ab_d : stops (step { start [0xD2] with a := 0x12, b := 0x34, d := 0x00, flags := { (start []).flags with sign := false, parity := false, overflow := false, carry := false, zero := false } })
    (.divideError .zero) = true := by decide
theorem test_v115_idiv_ab_d : gives (step { start [0xD3] with a := 0xFF, b := 0xF9, d := 0x02, flags := { (start []).flags with sign := false, parity := false, overflow := false, carry := false, zero := false } })
    (fun t => t.a == 0xFF && t.b == 0xFD && t.ip == 0x0101) = true := by decide
theorem test_v116_idiv_ab_d : gives (step { start [0xD3] with a := 0x00, b := 0x07, d := 0xFE, flags := { (start []).flags with sign := false, parity := false, overflow := false, carry := false, zero := false } })
    (fun t => t.a == 0x01 && t.b == 0xFD && t.ip == 0x0101) = true := by decide
theorem test_v119_idiv_ab_d : stops (step { start [0xD3] with a := 0xFF, b := 0x80, d := 0xFF, flags := { (start []).flags with sign := false, parity := false, overflow := false, carry := false, zero := false } })
    (.divideError .overflow) = true := by decide
theorem test_v122_exp_a_b : gives (step { start [0xD4] with b := 0x80, flags := { (start []).flags with zero := true } })
    (fun t => t.a == 0xFF && t.flags == { (start []).flags with zero := true } && t.ip == 0x0101) = true := by decide
theorem test_v128_jr_7f : gives (step { start [0xD5, 0x7F] with ip := 0xFFF0, mem := Memory.putBytes [] 0xFFF0 [0xD5, 0x7F] })
    (fun t => t.flags == (start []).flags && t.ip == 0x0071) = true := by decide
theorem test_v129_jr_a : gives (step { start [0xD6] with a := 0xF0 })
    (fun t => t.flags == (start []).flags && t.ip == 0x00F1) = true := by decide
theorem test_v131_jz_10 : gives (step { start [0xDC, 0x10] with flags := { (start []).flags with zero := true } })
    (fun t => t.flags == { (start []).flags with zero := true } && t.ip == 0x0112) = true := by decide
theorem test_v132_jz_10 : gives (step { start [0xDC, 0x10] with flags := { (start []).flags with zero := false } })
    (fun t => t.flags == { (start []).flags with zero := false } && t.ip == 0x0102) = true := by decide
theorem test_v134_js_f0 : gives (step { start [0xD8, 0xF0] with flags := { (start []).flags with sign := true } })
    (fun t => t.flags == { (start []).flags with sign := true } && t.ip == 0x00F2) = true := by decide
theorem test_v138_jzc_10 : gives (step { start [0xE2, 0x10] with flags := { (start []).flags with carry := false, zero := true } })
    (fun t => t.flags == { (start []).flags with carry := false, zero := true } && t.ip == 0x0112) = true := by decide
theorem test_v139_jnzc_10 : gives (step { start [0xE5, 0x10] with flags := { (start []).flags with carry := false, zero := false } })
    (fun t => t.flags == { (start []).flags with carry := false, zero := false } && t.ip == 0x0112) = true := by decide
theorem test_v140_jso_10 : gives (step { start [0xE3, 0x10] with flags := { (start []).flags with sign := true, overflow := true } })
    (fun t => t.flags == { (start []).flags with sign := true, overflow := true } && t.ip == 0x0112) = true := by decide
theorem test_v141_jnso_10 : gives (step { start [0xE6, 0x10] with flags := { (start []).flags with sign := true, overflow := true } })
    (fun t => t.flags == { (start []).flags with sign := true, overflow := true } && t.ip == 0x0102) = true := by decide
theorem test_v142_jsonz_10 : gives (step { start [0xE4, 0x10] with flags := { (start []).flags with sign := false, overflow := false, zero := true } })
    (fun t => t.flags == { (start []).flags with sign := false, overflow := false, zero := true } && t.ip == 0x0102) = true := by decide
theorem test_v143_jznso_10 : gives (step { start [0xE7, 0x10] with flags := { (start []).flags with sign := false, overflow := false, zero := true } })
    (fun t => t.flags == { (start []).flags with sign := false, overflow := false, zero := true } && t.ip == 0x0112) = true := by decide
theorem test_v145_jeqz_c_10 : gives (step { start [0xEA, 0x10] with c := 0x01 })
    (fun t => t.flags == (start []).flags && t.ip == 0x0102) = true := by decide
theorem test_v146_jneqz_d_fc : gives (step { start [0xEF, 0xFC] with d := 0x80 })
    (fun t => t.flags == (start []).flags && t.ip == 0x00FE) = true := by decide
theorem test_v147_loop_b_fd : gives (step { start [0xF1, 0xFD] with b := 0x02, flags := { (start []).flags with zero := true } })
    (fun t => t.b == 0x01 && t.flags == { (start []).flags with zero := true } && t.ip == 0x00FF) = true := by decide
theorem test_v149_loop_a_10 : gives (step { start [0xF0, 0x10] with a := 0x00 })
    (fun t => t.a == 0xFF && t.flags == (start []).flags && t.ip == 0x0112) = true := by decide
theorem test_v150_jmp_3000 : gives (step (start [0xF4, 0x30, 0x00]))
    (fun t => t.flags == (start []).flags && t.ip == 0x3000) = true := by decide
theorem test_v152_jmp_cd : gives (step { start [0xF6] with c := 0xFF, d := 0xFF })
    (fun t => t.flags == (start []).flags && t.ip == 0xFFFF) = true := by decide
theorem test_v156_call_3000 : gives (step { start [0xF7, 0x30, 0x00] with sp := 0x8000, ip := 0xFFFE, mem := Memory.putBytes [] 0xFFFE [0xF7, 0x30, 0x00] })
    (fun t => t.sp == 0x7FFE && t.flags == (start []).flags && t.peek 0x7FFE == some 0x00 && t.peek 0x7FFF == some 0x01 && t.ip == 0x3000) = true := by decide
theorem test_v158_ret : gives (step (holding { start [0xFA] with sp := 0xFFFF } [(0xFFFF, 0x12), (0x0000, 0x34)]))
    (fun t => t.sp == 0x0001 && t.flags == (start []).flags && t.ip == 0x1234) = true := by decide
theorem test_v160_stc : gives (step { start [0xFD] with flags := { (start []).flags with carry := false, zero := true } })
    (fun t => t.flags.carry == true && t.flags.zero == true && t.ip == 0x0101) = true := by decide
theorem test_v161_cmc : gives (step { start [0xFC] with flags := { (start []).flags with carry := true } })
    (fun t => t.flags.carry == false && t.ip == 0x0101) = true := by decide
theorem test_v164_nop : gives (step { start [0xFF] with flags := { (start []).flags with sign := true } })
    (fun t => t.flags == { (start []).flags with sign := true } && t.ip == 0x0101) = true := by decide
theorem test_v165_halt : gives (step (start [0xFE]))
    (fun t => t.flags == (start []).flags && t.halted && t.ip == 0x0101) = true := by decide

/-! ### States that meet the hypotheses of the statements

Where a statement's hypothesis is that an instruction stands in a list, the theorem runs rows of that list at boundary values; where it
is on the state, the theorem shows a state that meets it. -/

/-- `n` positions from `a` on, each holding the same byte. -/
def fill (v : Byte) : Nat → Nat → Memory
  | 0, _ => []
  | n + 1, a => (a, v) :: fill v n (a + 1)

theorem get?_fill (v : Byte) (n a b : Nat) (h : a ≤ b) (h' : b < a + n) : Memory.get? (fill v n a) b = some v := by
  induction n generalizing a with
  | zero => omega
  | succ n ih =>
    simp only [fill, Memory.get?]
    split
    · rfl
    · exact ih (a + 1) (by omega) (by omega)

theorem witness_DecodeEncodeRoundTrip : (Instr.movAtABdisp_CD 0xFF80).encodable { Config.spec with dispWidth := .bits8Signed } = true ∧
    (Instr.movAtABdisp_CD 0xFF7F).encodable Config.spec = true ∧ Config.spec.dispWidth = .bits16 := by decide
theorem witness_StepRunsDecodedInstruction :
    let s : State := { start [] with ip := 0xFFFE, mem := Memory.putBytes [] 0xFFFE [0x30, 0x00, 0x01, 0x7F] }
    let bs : List Byte := [0x30, 0x00, 0x01, 0x7F, 0xAA]
    s.halted = false ∧ decode bs = .ok (.movAtAddr_imm8 0x0001 0x7F) ∧
      ∀ k < (Instr.movAtAddr_imm8 0x0001 0x7F).length, s.peek (s.ip + BitVec.ofNat 16 k) = bs[k]? :=
  ⟨rfl, rfl, by decide⟩
theorem witness_HaltedMachineStaysHalted_step : ∃ t, step (start [0xFE]) = .next t ∧ t.halted = true := ⟨_, rfl, rfl⟩
theorem witness_HaltedMachineStaysHalted_halt : ∃ t, exec .halt (start []) = .next t ∧ t.halted = true := ⟨_, rfl, rfl⟩
theorem witness_HaltedMachineStaysHalted_other : ∃ t, exec .nop { start [] with halted := true } = .next t ∧ t.halted = true :=
  ⟨_, rfl, rfl⟩
theorem witness_StepKeepsInvariant : (start [0x24, 0xFF, 0xFF]).Inv ∧
    ∃ t, step (start [0x24, 0xFF, 0xFF]) = .next t ∧ t.peek 0xFFFF = some 0x12 :=
  ⟨Memory.putBytes_wf _ _ _ Memory.nil_wf, _, rfl, rfl⟩
theorem witness_ResetMeetsInvariant : Memory.wf [(0, 0xFE), (65535, 0x01)] ∧ Memory.wf Config.spec.resetState.mem := by decide
theorem witness_StopsAreOnlyTheListedOnes_halted : stops (step { start [0xFF] with halted := true }) .halted = true := by decide
theorem witness_StopsAreOnlyTheListedOnes_fetch :
    stops (step { start [] with ip := 0xFFFF, mem := [(65535, 0x00)] }) (.unspecifiedRead 0x0000) = true := by decide
theorem witness_StopsAreOnlyTheListedOnes_operand :
    stops (step { start [0xFA] with sp := 0xFFFF, mem := [(256, 0xFA), (65535, 0x00)] }) (.unspecifiedRead 0x0000) = true := by decide
theorem witness_StopsAreOnlyTheListedOnes_zero :
    stops (step { start [0xD2] with d := 0 }) (.divideError .zero) = true := by decide
theorem witness_StopsAreOnlyTheListedOnes_overflow :
    stops (step { start [0xD3] with a := 0x00, b := 0x80, d := 1 }) (.divideError .overflow) = true := by decide
theorem witness_SpecifiedMemoryRunsOn (v : Byte) : let s : State := { start [] with mem := fill v 65536 0 }
    s.halted = false ∧ s.AllSpecified :=
  ⟨rfl, fun a => by simp only [State.peek, get?_fill v 65536 0 a.toNat (Nat.zero_le _) (by simp [a.isLt]), Option.isSome_some]⟩
theorem witness_SpecifiedMemoryRunsOn_step : ∃ t, step (start [0x50]) = .next t ∧ ((start [0x50]).peek 0x0100).isSome = true :=
  ⟨_, rfl, rfl⟩
theorem witness_FlagsByFamily_dataMovement : ∃ t, exec .popA (holding (start []) [(0x8000, 1)]) = .next t ∧
    Instr.popA.asm.mnemonic.family = .dataMovement ∧ Instr.popA ≠ .popF :=
  ⟨_, rfl, rfl, by decide⟩
theorem witness_FlagsByFamily_branch : ∃ t, exec (.loopA_rel8 0x80) (start []) = .next t ∧
    (Instr.loopA_rel8 0x80).asm.mnemonic.family = .branch := ⟨_, rfl, rfl⟩
theorem witness_FlagsByFamily_control : ∃ t, exec .stc (start []) = .next t ∧ Instr.stc.asm.mnemonic.family = .control :=
  ⟨_, rfl, rfl⟩
theorem witness_FlagsByFamily_nop : ∃ t, exec .nop (start []) = .next t := ⟨_, rfl⟩
theorem witness_MemoryFrame : ∃ t, exec (.movAtAddr_AB 0xFFFF) (start [0x45]) = .next t ∧
    storesTo (.movAtAddr_AB 0xFFFF) (start [0x45]) = [0xFFFF, 0x0000] ∧ t.peek 0x0100 = some 0x45 :=
  ⟨_, rfl, rfl, rfl⟩
theorem witness_PeripheralFrame : ∃ t, exec .outA { start [] with output := [1] } = .next t ∧ t.output = [1, 0x12] :=
  ⟨_, rfl, rfl⟩
theorem witness_PeripheralFrame_other : (∃ t, exec .nop { start [] with input := [1], output := [2] } = .next t) ∧
    Instr.nop.asm.mnemonic ≠ .in ∧ Instr.nop.asm.mnemonic ≠ .out := ⟨⟨_, rfl⟩, by decide, by decide⟩
theorem witness_StackPointerWriters : ∃ t, exec .movAB_SP (start []) = .next t ∧ writesSp .movAB_SP = false := ⟨_, rfl, rfl⟩
theorem witness_MemoryReadAfterWrite : (0xFFFE : Word) ≠ 0xFFFF ∧ (0xFFFE : Word) ≠ 0xFFFF + 1 := by decide
theorem witness_StackWordsAreTwoBytes : let s : State := { start [] with sp := 0xFFFF, mem := [(0, 0x34), (65535, 0x12)] }
    ∃ t u, popByte .spec s = .next (0x12, t) ∧ popByte .spec t = .next (0x34, u) := ⟨_, _, rfl, rfl⟩
theorem witness_Mov8_immediate : gives (exec (.movD_imm8 0xFF) (start [])) (fun t => t.d == 0xFF && t.ip == 0x0102) = true := by decide
theorem witness_Mov8_register : gives (exec .movD_A (start [])) (fun t => t.d == 0x12 && t.ip == 0x0101) = true := by decide
theorem witness_Mov8_load : (holding (start []) [(0x1233, 9)]).peek
    (effectiveAddress .spec (.indexed .AB 0xFFFF) (holding (start []) [(0x1233, 9)])) = some 9 := by decide
theorem witness_Mov8_store : gives (exec (.movAtCDdisp_B 0xA987) (start [])) (fun t => t.peek 0xFFFF == some 0x34) = true := by decide
theorem witness_Mov16_immediate : gives (exec (.movCD_imm16 0xFF00) (start [])) (fun t => t.c == 0xFF && t.d == 0x00) = true := by decide
theorem witness_Mov16_load : let s := holding (start []) [(0xFFFF, 1), (0x0000, 2)]
    s.peek (effectiveAddress .spec (.direct 0xFFFF) s) = some 1 ∧ s.peek (effectiveAddress .spec (.direct 0xFFFF) s + 1) = some 2 := by decide
theorem witness_Mov16_store : gives (exec (.movAtAddr_CD 0xFFFF) (start []))
    (fun t => t.peek 0xFFFF == some 0x56 && t.peek 0x0000 == some 0x78) = true := by decide
theorem witness_InputAndOutput_supplied : ({ start [] with input := [0x99, 0x01] } : State).input = 0x99 :: [0x01] := rfl
theorem witness_InputAndOutput_drawn : (start []).input = [] ∧ ∃ t, exec .inB (start []) = .next t := ⟨rfl, _, rfl⟩
theorem witness_InputAndOutput_out : gives (exec .outB (start [])) (fun t => t.output == [0x34]) = true := by decide
theorem witness_Push8_register : gives (exec .pushF { start [] with sp := 0x0000, flags := spocz true true true true true })
    (fun t => t.sp == 0xFFFF && t.peek 0xFFFF == some 0x1F) = true := by decide
theorem witness_Push8_memory : (holding (start []) [(0xFFFF, 3)]).peek 0xFFFF = some 3 := by decide
theorem witness_Pop8 : let s := holding { start [] with sp := 0xFFFF } [(0xFFFF, 0x15)]
    s.peek s.sp = some 0x15 ∧ gives (exec .popF s) (fun t => t.flags == spocz true false true false true && t.sp == 0) = true := by decide
theorem witness_PushAndPop16_push : gives (exec .pushCD { start [] with sp := 0x0001 })
    (fun t => t.sp == 0xFFFF && t.peek 0xFFFF == some 0x56 && t.peek 0x0000 == some 0x78) = true := by decide
theorem witness_PushAndPop16_pop : let s := holding { start [] with sp := 0xFFFF } [(0xFFFF, 1), (0x0000, 2)]
    s.peek s.sp = some 1 ∧ s.peek (s.sp + 1) = some 2 := by decide
theorem witness_PushThenPopCopies : ∃ t u, exec .pushAB (start []) = .next t ∧ exec .popCD t = .next u := ⟨_, _, rfl, rfl⟩
theorem witness_IncDec8_inc : gives (exec .incD { start [] with d := 0x7F })
    (fun t => t.d == 0x80 && t.flags == spocz true false true true false) = true := by decide
theorem witness_IncDec8_dec : gives (exec .decC { start [] with c := 0x80 })
    (fun t => t.c == 0x7F && t.flags == spocz false false true true false) = true := by decide
theorem witness_IncDec8_memory : (holding (start []) [(0x0000, 0xFF)]).peek 0x0000 = some 0xFF := by decide
theorem witness_IncDec16_inc : gives (exec .incAB { start [] with a := 0x7F, b := 0xFF })
    (fun t => t.a == 0x80 && t.b == 0 && t.flags == spocz true true true true false) = true := by decide
theorem witness_IncDec16_dec : gives (exec .decAB { start [] with a := 0, b := 0 })
    (fun t => t.a == 0xFF && t.b == 0xFF && t.flags == spocz true true false true false) = true := by decide
theorem witness_NotAndNeg_not : gives (exec .notB (start [])) (fun t => t.b == 0xCB && t.flags == (start []).flags) = true := by decide
theorem witness_NotAndNeg_neg : gives (exec .negB { start [] with b := 0x80 })
    (fun t => t.b == 0x80 && t.flags == spocz true false true true false) = true := by decide
theorem witness_Shifts_left : gives (exec .shlB { start [] with b := 0x80 })
    (fun t => t.b == 0 && t.flags == spocz false true true true true) = true := by decide
theorem witness_Shifts_right : gives (exec .shrB { start [] with b := 0x81 })
    (fun t => t.b == 0x40 && t.flags == spocz false false true true false) = true := by decide
theorem witness_Rotations_left : gives (exec .rlA { start [] with a := 0x81 })
    (fun t => t.a == 0x03 && t.flags == spocz false true true true false) = true := by decide
theorem witness_Rotations_right : gives (exec .rrA { start [] with a := 0x81 })
    (fun t => t.a == 0xC0 && t.flags == spocz false true false true false) = true := by decide
theorem witness_AddAdc8 : gives (exec (.adcB_imm8 0xFF) { start [] with b := 0x00 })
    (fun t => t.b == 0x00 && t.flags == spocz false true false true true) = true := by decide
theorem witness_SubSbb8 : gives (exec (.sbbA_imm8 0x7F) { start [] with a := 0x80 })
    (fun t => t.a == 0x00 && t.flags == spocz false true true false true) = true := by decide
theorem witness_Cmp8 : gives (exec .cmpB_D { start [] with b := 0x80, d := 0x7F })
    (fun t => t.b == 0x80 && t.flags == spocz false false true false false) = true := by decide
theorem witness_Logic8 : gives (exec (.xorA_imm8 0xFF) { start [] with a := 0xFF })
    (fun t => t.a == 0x00 && t.flags == spocz false true false false true) = true := by decide
theorem witness_Add16_pair : gives (exec (.addCD_imm16 0x8000) { start [] with c := 0x80, d := 0x00 })
    (fun t => t.c == 0 && t.d == 0 && t.flags == spocz false true true true true) = true := by decide
theorem witness_Add16_sp : gives (exec .addSP_AB { start [] with a := 0xFF, b := 0xFF, sp := 0x8000 })
    (fun t => t.sp == 0x7FFF && t.flags == spocz false true true true false) = true := by decide
theorem witness_Sub16_pair : gives (exec .subCD_AB { start [] with a := 0, b := 1, c := 0, d := 0 })
    (fun t => t.c == 0xFF && t.d == 0xFF && t.flags == spocz true true false true false) = true := by decide
theorem witness_Sub16_sp : gives (exec (.subSP_imm16 0x0001) { start [] with sp := 0x8000 })
    (fun t => t.sp == 0x7FFF && t.flags == spocz false true true false false) = true := by decide
theorem witness_DivUnsigned_completes : ({ start [] with a := 0xFE, b := 0xFF, d := 0xFF } : State).a.toNat <
    ({ start [] with a := 0xFE, b := 0xFF, d := 0xFF } : State).d.toNat := by decide
theorem witness_DivUnsigned_stops : let s : State := { start [] with a := 0x01, b := 0x00, d := 0x01 }
    ¬ s.a.toNat < s.d.toNat ∧ stops (exec .divAB_D s) (.divideError .overflow) = true := by decide
theorem witness_DivSigned : let s : State := { start [] with a := 0xFF, b := 0x80, d := 0x01 }
    s.d ≠ 0 ∧ ¬ OutOfRange 8 ((s.pair .AB).toInt.tdiv s.d.toInt) ∧ gives (exec .idivAB_D s) (fun t => t.b == 0x80 && t.a == 0) = true := by
  unfold OutOfRange
  decide
theorem witness_DivideErrors_zero : ({ start [] with d := 0 } : State).d = 0 := rfl
theorem witness_DivideErrors_unsigned : let s : State := { start [] with a := 0xFF, b := 0x00, d := 0xFF }
    s.d ≠ 0 ∧ s.d.toNat ≤ s.a.toNat := by decide
theorem witness_DivideErrors_signed : let s : State := { start [] with a := 0xFF, b := 0x80, d := 0xFF }
    s.d ≠ 0 ∧ OutOfRange 8 ((s.pair .AB).toInt.tdiv s.d.toInt) := by
  unfold OutOfRange
  decide
theorem witness_FlagBranches_taken : gives (exec (.jznso_rel8 0x80) { start [] with flags := spocz true false false false false })
    (fun t => t.ip == 0x0082) = true := by decide
theorem witness_FlagBranches_past : gives (exec (.jsonz_rel8 0x7F) { start [] with flags := spocz true false true false true })
    (fun t => t.ip == 0x0102) = true := by decide
theorem witness_RegisterBranches_zero : gives (exec (.jeqzD_rel8 0x80) { start [] with d := 0 }) (fun t => t.ip == 0x0082) = true := by decide
theorem witness_RegisterBranches_other : gives (exec (.jneqzD_rel8 0x7F) { start [] with d := 0 }) (fun t => t.ip == 0x0102) = true := by decide
theorem witness_LoopBranches_ends : let s : State := { start [] with c := 1 }
    s.reg .C = 1 ∧ gives (exec (.loopC_rel8 0x80) s) (fun t => t.c == 0 && t.ip == 0x0102) = true := by decide
theorem witness_LoopBranches_wraps : let s : State := { start [] with d := 0 }
    s.reg .D ≠ 1 ∧ gives (exec (.loopD_rel8 0x7F) s) (fun t => t.d == 0xFF && t.ip == 0x0181) = true := by decide
theorem witness_CallPushesReturnAddress : gives (exec (.call_imm16 0x3000) { start [] with ip := 0xFFFD, sp := 0x0001 })
    (fun t => t.sp == 0xFFFF && t.peek 0xFFFF == some 0 && t.peek 0 == some 0 && t.ip == 0x3000) = true := by decide
theorem witness_ReturnPopsAddress : let s := holding { start [] with sp := 0xFFFF } [(0xFFFF, 0x12), (0x0000, 0x34)]
    s.peek s.sp = some 0x12 ∧ s.peek (s.sp + 1) = some 0x34 := by decide
theorem witness_CallThenReturn : ∃ t u, exec .callAB (start []) = .next t ∧ exec .ret t = .next u ∧ u.ip = 0x0101 := ⟨_, _, rfl, rfl, rfl⟩
theorem witness_CompareThenBranch : let s : State := { start [] with a := 0x7F, b := 0x80 }
    s.b.toInt ≤ s.a.toInt ∧ ¬ s.a.toInt < s.b.toInt ∧ ∃ t, exec .cmpA_B s = .next t ∧
      gives (exec (.jso_rel8 0x10) t) (fun u => u.ip == 0x0113) = true :=
  ⟨by decide, by decide, _, rfl, by decide⟩
theorem witness_BranchFrame_call : (Instr.callCD).asm.mnemonic.family = .branch ∧ ∃ t, exec .callCD (start []) = .next t ∧
    t.sp ≠ (start []).sp ∧ t.peek t.sp ≠ (start []).peek t.sp := ⟨rfl, _, rfl, by decide, by decide⟩
theorem witness_BranchFrame_loop : (Instr.loopB_rel8 0).asm.mnemonic.family = .branch ∧ ∃ t, exec (.loopB_rel8 0) (start []) = .next t ∧
    t.reg .B ≠ (start []).reg .B := ⟨rfl, _, rfl, by decide⟩
theorem witness_HaltStops : ∃ t, exec .halt (start []) = .next t ∧ stops (step t) .halted = true := ⟨_, rfl, by decide⟩
/-- A configuration far from the spec's: the numbers of `HALT` and `NOP` exchanged, little-endian, 8-bit displacements. -/
def other : Config :=
  { Config.spec with opcodeMap := Equiv.swap 0xFE 0xFF, byteOrder := .littleEndian, dispWidth := .bits8Unsigned }

theorem witness_StepUnderAnyConfiguration : let s : State := { start [] with ip := 0xFFFF, mem := [(0, 0xFF), (65535, 0x07)] }
    s.halted = false ∧ decodeWith other [0x07, 0xFF, 0x01] = .ok (.movA_atABdisp 0x00FF) ∧
      (∀ k < (encodeWith other (.movA_atABdisp 0x00FF)).length, other.memMap (s.ip + BitVec.ofNat 16 k) = true ∧
        s.peek (s.ip + BitVec.ofNat 16 k) = ([0x07, 0xFF, 0x01] : List Byte)[k]?) :=
  ⟨rfl, rfl, by decide⟩
theorem witness_OpcodeMapOnlyRenames : let s : State := start [0x01]
    s.halted = false ∧ Instr.halt.encodable Config.spec = true ∧
      (∀ k < (encodeWith { Config.spec with opcodeMap := Equiv.swap 0x01 0xFE } .halt).length,
        Config.spec.memMap (s.ip + BitVec.ofNat 16 k) = true ∧
        s.peek (s.ip + BitVec.ofNat 16 k) = (encodeWith { Config.spec with opcodeMap := Equiv.swap 0x01 0xFE } .halt)[k]?) ∧
      gives (stepWith { Config.spec with opcodeMap := Equiv.swap 0x01 0xFE } s) (fun t => t.halted) = true :=
  ⟨rfl, rfl, by decide, by decide⟩

/-! ### One step under another value of each parameter, the result worked out by hand from what the parameter means (spec/00_scope.md R3,
the notes of spec/92_eei_decisions.md) -/

theorem test_opcodeMap : gives (stepWith { Config.spec with opcodeMap := Equiv.swap 0xFF 0xFE } (start [0xFF]))
    (fun t => t.halted && t.ip == 0x0101) = true := by decide
theorem test_operandLayout : gives (stepWith { Config.spec with operandLayout := .immediateFirst } (start [0x30, 0x99, 0x20, 0x40]))
    (fun t => t.peek 0x2040 == some 0x99) = true := by decide
theorem test_byteOrder : gives (stepWith { Config.spec with byteOrder := .littleEndian } (start [0x31, 0x34, 0x56]))
    (fun t => t.a == 0x56 && t.b == 0x34) = true := by decide
theorem test_addrForms : gives (stepWith { Config.spec with addrForms := fun _ x => 0x20FF - (x .D).zeroExtend 16 }
      (holding (start [0x05]) [(0x2087, 0x99)])) (fun t => t.a == 0x99) = true := by decide
theorem test_dispWidth_signed : gives (stepWith { Config.spec with dispWidth := .bits8Signed } (holding (start [0x07, 0xFF]) [(0x1233, 9)]))
    (fun t => t.a == 9 && t.ip == 0x0102) = true := by decide
theorem test_dispWidth_unsigned : gives (stepWith { Config.spec with dispWidth := .bits8Unsigned } (start [0x2C, 0xFF]))
    (fun t => t.peek 0x1333 == some 0x56 && t.ip == 0x0102) = true := by decide
theorem test_stackDiscipline : gives (stepWith
      { Config.spec with stackDiscipline := { direction := .towardHigher, holds := .nextFree } } (start [0x5C]))
    (fun t => t.peek 0x8000 == some 0x12 && t.peek 0x8001 == some 0x34 && t.sp == 0x8002) = true := by decide
theorem test_stackDiscipline_pop : gives (stepWith
      { Config.spec with stackDiscipline := { direction := .towardLower, holds := .nextFree } } (holding (start [0x56]) [(0x8001, 9)]))
    (fun t => t.a == 9 && t.sp == 0x8001) = true := by decide
theorem test_flagLayout : gives (stepWith
      { Config.spec with flagLayout := { sign := 7, parity := 2, overflow := 5, carry := 0, zero := 6 } } (start [0x54]))
    (fun t => t.peek 0x7FFF == some 0x05) = true := by decide
theorem test_flagPolicy : gives (stepWith { Config.spec with flagPolicy := fun _ => Config.allComputed }
      { start [0x65] with a := 0xFE, flags := spocz false false false true false }) (fun t => t.a == 0xFF && !t.flags.carry) = true := by decide
theorem test_paritySense : gives (stepWith { Config.spec with paritySense := .odd } { start [0xAA, 0x07] with a := 0xFF })
    (fun t => t.a == 0x07 && t.flags.parity) = true := by decide
theorem test_rotateKind : gives (stepWith { Config.spec with rotateKind := .throughCarry } { start [0x78] with a := 0x40 })
    (fun t => t.a == 0x81 && !t.flags.carry) = true := by decide
theorem test_divFault : gives (stepWith { Config.spec with divFault := .goesOn (fun _ _ => (0xAB, 0xCD)) (fun _ _ => (0, 0)) }
      { start [0xD2] with d := 0 }) (fun t => t.b == 0xAB && t.a == 0xCD && t.ip == 0x0101) = true := by decide
theorem test_relBase : gives (stepWith { Config.spec with relBase := .branchOpcode } (start [0xD5, 0x10])) (fun t => t.ip == 0x0110) = true := by decide
theorem test_ioModel_waits : gives (stepWith { Config.spec with ioModel := { emptyInput := .waits, outputUse := .dropped } } (start [0x4C]))
    (fun t => t == start [0x4C]) = true := by decide
theorem test_ioModel_draws : gives (stepWith
      { Config.spec with ioModel := { emptyInput := .freeByte fun _ => 0x99, outputUse := .dropped } } (start [0x4C]))
    (fun t => t.a == 0x99) = true := by decide
theorem test_haltPc : gives (stepWith { Config.spec with haltPc := .atOpcode } (start [0xFE])) (fun t => t.halted && t.ip == 0x0100) = true := by decide
theorem test_resetState : State.resetWith { Config.spec with
      resetPc := 0xFFF0, resetState := { Config.resetZero with sp := 0x8000, mem := [(0xFFF0, 0xFF)] } } =
    { State.reset with sp := 0x8000, ip := 0xFFF0, mem := [(0xFFF0, 0xFF)] } := by decide
theorem test_memMap : stepWith { Config.spec with memMap := fun a => a != 0x2000 } (start [0x24, 0x20, 0x00]) =
    .refused (.outsideMemMap 0x2000) := rfl

end Sys2Proof.Tests
end

section
/-! SUPPORT. What the shared operations not yet covered by Sys2Proof/Laws/Ops.lean can do, and the one shared operation that each
instruction, as written, runs. -/

namespace Sys2Proof.Machine

/-! ### The operations -/

/-- A write to an 8-bit location keeps the flags, unless the location is `F` (R17). -/
theorem writeLoc8_flags {l : Loc8} {v : Byte} {s t : State} (h : writeLoc8 .spec l v s = .next t) (hl : l ≠ .flags) :
    t.flags = s.flags := by
  cases l with
  | reg r => cases h; simp
  | flags => exact absurd rfl hl
  | mem m => cases h; rfl

theorem writeLoc8_halted {l : Loc8} {v : Byte} {s t : State} (h : writeLoc8 .spec l v s = .next t) : t.halted = s.halted := by
  obtain ⟨u, hu, -, -, -, -, hhalted, -, -⟩ := writeLoc8_next l v s
  cases h.symm.trans hu
  exact hhalted

theorem writeLoc16_flags {l : Loc16} {v : Word} {s t : State} (h : writeLoc16 .spec l v s = .next t) : t.flags = s.flags := by
  obtain ⟨u, hu, -, hflags, -, -, -, -, -⟩ := writeLoc16_next l v s
  cases h.symm.trans hu
  exact hflags

theorem writeLoc16_halted {l : Loc16} {v : Word} {s t : State} (h : writeLoc16 .spec l v s = .next t) : t.halted = s.halted := by
  obtain ⟨u, hu, -, -, -, -, hhalted, -, -⟩ := writeLoc16_next l v s
  cases h.symm.trans hu
  exact hhalted

/-- `IN` takes a byte, which moves the input stream alone, and puts it in its register (R32). -/
theorem input_eq_next {r : Reg} {len : Word} {s t : State} (h : input .spec r len s = .next t) :
    ∃ v rest n, t = advance len ({ s with input := rest, inputDraws := n }.setReg r v) := by
  unfold input ioIn at h
  cases hi : s.input with
  | nil => simp only [hi, Config.spec] at h; cases h; exact ⟨_, [], s.inputDraws + 1, rfl⟩
  | cons v rest => simp only [hi] at h; cases h; exact ⟨v, rest, s.inputDraws, rfl⟩

/-- `OUT` always completes: the register's byte ends the output trace (R32). -/
theorem output_eq (r : Reg) (len : Word) (s : State) :
    output .spec r len s = .next (advance len { s with output := s.output ++ [s.reg r] }) := rfl

/-- 8-bit `PUSH` reads, stores below the top of the stack, advances. -/
theorem push8_eq_next {l : Loc8} {len : Word} {s t : State} :
    push8 .spec l len s = .next t ↔ ∃ v, readLoc8 .spec l s = .next v ∧
      t = advance len ((s.setSp (s.sp - 1)).setMem (Memory.put s.mem (s.sp - 1).toNat v)) := by
  simp only [push8, andThen_eq_next, pushByte_eq, Host.Outcome.next.injEq, exists_eq_left', eq_comm (a := t)]

/-- 8-bit `POP` reads the top of the stack, moves `SP`, writes, advances. -/
theorem pop8_eq_next {l : Loc8} {len : Word} {s t : State} :
    pop8 .spec l len s = .next t ↔ ∃ v u, s.peek s.sp = some v ∧ writeLoc8 .spec l v (s.setSp (s.sp + 1)) = .next u ∧
      t = advance len u := by
  simp only [pop8, andThen_eq_next, Host.Outcome.next.injEq, Prod.exists, popByte_eq_next]
  constructor
  · rintro ⟨v, _, ⟨hv, rfl⟩, u, hu, rfl⟩; exact ⟨v, u, hv, hu, rfl⟩
  · rintro ⟨v, u, hv, hu, rfl⟩; exact ⟨v, _, ⟨hv, rfl⟩, u, hu, rfl⟩

/-- 16-bit `PUSH` always completes. -/
theorem push16_eq (p : Pair) (len : Word) (s : State) :
    push16 .spec p len s = .next (advance len ((s.setSp (s.sp - 2)).setMem
      (Memory.put (Memory.put s.mem (s.sp - 2).toNat (hiByte (s.pair p))) (s.sp - 2 + 1).toNat (loByte (s.pair p))))) := rfl

/-- 16-bit `POP` reads the top of the stack, moves `SP`, writes the pair, advances. -/
theorem pop16_eq_next {p : Pair} {len : Word} {s t : State} :
    pop16 .spec p len s = .next t ↔ ∃ v, readWord .spec s.sp s = .next v ∧
      t = advance len ((s.setSp (s.sp + 2)).setPair p v) := by
  simp only [pop16, andThen_eq_next, Host.Outcome.next.injEq, Prod.exists, popWord_eq_next]
  constructor
  · rintro ⟨v, _, ⟨hv, rfl⟩, rfl⟩; exact ⟨v, hv, rfl⟩
  · rintro ⟨v, hv, rfl⟩; exact ⟨v, _, ⟨hv, rfl⟩, rfl⟩

/-- A binary operation on 8 bits reads its second operand, writes the flags and the result, advances. -/
theorem binary8_eq_next {cfg : Config} {op : BinaryOp 8} {dst : Reg} {src : Src8} {len : Word} {s t : State} :
    binary8 cfg op dst src len s = .next t ↔ ∃ b, readSrc8 cfg src s = .next b ∧
      t = advance len ((s.writeFlags cfg op.row (op.compute cfg (s.reg dst) b s.flags.carry).2).setReg dst
        (op.compute cfg (s.reg dst) b s.flags.carry).1) := by
  simp only [binary8, andThen_eq_next, Host.Outcome.next.injEq, eq_comm (a := t)]

/-- `CMP` reads its second operand, writes the flags, advances. -/
theorem compare8_eq_next {cfg : Config} {first : Reg} {src : Src8} {len : Word} {s t : State} :
    compare8 cfg first src len s = .next t ↔ ∃ b, readSrc8 cfg src s = .next b ∧
      t = advance len (s.writeFlags cfg .subtraction (flagsSub cfg (s.reg first) b false).2) := by
  simp only [compare8, andThen_eq_next, Host.Outcome.next.injEq, eq_comm (a := t)]

/-- A binary operation on 16 bits reads both operands, writes the flags and the result, advances. -/
theorem binary16_eq_next {cfg : Config} {op : BinaryOp 16} {dst : Loc16} {src : Src16} {len : Word} {s t : State} :
    binary16 cfg op dst src len s = .next t ↔ ∃ a b u, readLoc16 cfg dst s = .next a ∧ readSrc16 cfg src s = .next b ∧
      writeLoc16 cfg dst (op.compute cfg a b s.flags.carry).1 (s.writeFlags cfg op.row (op.compute cfg a b s.flags.carry).2) = .next u ∧
      t = advance len u := by
  simp only [binary16, andThen_eq_next, Host.Outcome.next.injEq]
  constructor
  · rintro ⟨a, ha, b, hb, u, hu, rfl⟩; exact ⟨a, b, u, ha, hb, hu, rfl⟩
  · rintro ⟨a, b, u, ha, hb, hu, rfl⟩; exact ⟨a, ha, b, hb, u, hu, rfl⟩

/-- A division that completes stores some quotient and some remainder. -/
theorem divide_eq_next {cfg : Config} {division : Word → Byte → Except DivideCause (Byte × Byte)}
    {instead : Config → Word → Byte → Option (Byte × Byte)} {len : Word} {s t : State}
    (h : divide cfg division instead len s = .next t) : ∃ q r, t = storeDivision cfg q r len s := by
  unfold divide at h
  split at h
  · cases h; exact ⟨_, _, rfl⟩
  · split at h <;> cases h
    exact ⟨_, _, rfl⟩

/-- `LOOP` always completes: the register is decremented, and `IP` alone depends on the outcome (R401). -/
theorem loopRel_eq (r : Reg) (len : Word) (offset : Byte) (s : State) :
    loopRel .spec r len offset s = .next ((s.setReg r (s.reg r - 1)).setIp
      (if s.reg r - 1 != 0 then s.ip + len + sext16 offset else s.ip + len)) := by
  rw [loopRel, branchRel_eq, State.setReg_ip]; rfl

/-! ### The operation of each instruction -/

/-- `SharedOp s a r`: in the state `s`, the instruction written `a` answers `r`, the shared operation of its mnemonic on the operands
written. The length, the arithmetic operation, the branch condition and the target may be any, so a fact about all 256 instructions
that does not turn on them takes one case for each operation. -/
inductive SharedOp (s : State) : Asm → Res State → Prop
  | mov8 {dst : Loc8} {src : Src8} {len : Word} (hd : dst ≠ .flags) :
      SharedOp s ⟨.mov, [.byte (.loc dst), .byte src]⟩ (mov8 .spec dst src len s)
  | mov16 {dst : Loc16} {src : Src16} {len : Word} : SharedOp s ⟨.mov, [.word (.loc dst), .word src]⟩ (mov16 .spec dst src len s)
  | input {r : Reg} {len : Word} : SharedOp s ⟨.in, [.byte (.loc (.reg r))]⟩ (input .spec r len s)
  | output {r : Reg} {len : Word} : SharedOp s ⟨.out, [.byte (.loc (.reg r))]⟩ (output .spec r len s)
  | push8 {l : Loc8} {len : Word} : SharedOp s ⟨.push, [.byte (.loc l)]⟩ (push8 .spec l len s)
  | pop8 {l : Loc8} {len : Word} : SharedOp s ⟨.pop, [.byte (.loc l)]⟩ (pop8 .spec l len s)
  | push16 {p : Pair} {len : Word} : SharedOp s ⟨.push, [.word (.loc (.pair p))]⟩ (push16 .spec p len s)
  | pop16 {p : Pair} {len : Word} : SharedOp s ⟨.pop, [.word (.loc (.pair p))]⟩ (pop16 .spec p len s)
  | unary8Reg {m : Mnemonic} {op : UnaryOp 8} {r : Reg} {len : Word} (hm : m.family = .arithmeticLogic) :
      SharedOp s ⟨m, [.byte (.loc (.reg r))]⟩ (unary8 .spec op (.reg r) len s)
  | unary8Mem {m : Mnemonic} {op : UnaryOp 8} {x : AddrForm} {len : Word} (hm : m = .inc ∨ m = .dec) :
      SharedOp s ⟨m, [.byte (.loc (.mem x))]⟩ (unary8 .spec op (.mem x) len s)
  | unary16Pair {m : Mnemonic} {op : UnaryOp 16} {p : Pair} {len : Word} (hm : m.family = .arithmeticLogic) :
      SharedOp s ⟨m, [.word (.loc (.pair p))]⟩ (unary16 .spec op (.pair p) len s)
  | unary16Sp {m : Mnemonic} {op : UnaryOp 16} {len : Word} (hm : m = .inc ∨ m = .dec) :
      SharedOp s ⟨m, [.word (.loc .sp)]⟩ (unary16 .spec op .sp len s)
  | compare8 {r : Reg} {src : Src8} {len : Word} :
      SharedOp s ⟨.cmp, [.byte (.loc (.reg r)), .byte src]⟩ (compare8 .spec r src len s)
  | mul {len : Word} : SharedOp s (Instr.asm .mulA_D) (multiply .spec .unsignedProduct unsignedProduct unsignedWide len s)
  | imul {len : Word} : SharedOp s (Instr.asm .imulA_D) (multiply .spec .signedProduct signedProduct signedWide len s)
  | div {len : Word} : SharedOp s (Instr.asm .divAB_D) (divide .spec unsignedDivision unsignedInstead len s)
  | idiv {len : Word} : SharedOp s (Instr.asm .idivAB_D) (divide .spec signedDivision signedInstead len s)
  | expandSign {os : List Operand} {len : Word} : SharedOp s ⟨.exp, os⟩ (expandSign .spec len s)
  | binary8 {m : Mnemonic} {op : BinaryOp 8} {r : Reg} {src : Src8} {len : Word} (hm : m.family = .arithmeticLogic) :
      SharedOp s ⟨m, [.byte (.loc (.reg r)), .byte src]⟩ (binary8 .spec op r src len s)
  | binary16Pair {m : Mnemonic} {op : BinaryOp 16} {p : Pair} {src : Src16} {len : Word} (hm : m.family = .arithmeticLogic) :
      SharedOp s ⟨m, [.word (.loc (.pair p)), .word src]⟩ (binary16 .spec op (.pair p) src len s)
  | binary16Sp {m : Mnemonic} {op : BinaryOp 16} {src : Src16} {len : Word} (hm : m = .add ∨ m = .sub) :
      SharedOp s ⟨m, [.word (.loc .sp), .word src]⟩ (binary16 .spec op .sp src len s)
  | branchRel {m : Mnemonic} {os : List Operand} {taken : Bool} {offset : Byte} {len : Word}
      (hm : m.family = .branch) (hn : m ∉ [.loop, .call, .ret]) : SharedOp s ⟨m, os⟩ (branchRel .spec taken len offset s)
  | loopRel {r : Reg} {offset : Byte} {len : Word} :
      SharedOp s ⟨.loop, [.byte (.loc (.reg r)), .rel8 offset]⟩ (loopRel .spec r len offset s)
  | jumpTo {os : List Operand} {target : Word} : SharedOp s ⟨.jmp, os⟩ (jumpTo target s)
  | callTo {os : List Operand} {target : Word} {len : Word} : SharedOp s ⟨.call, os⟩ (callTo .spec target len s)
  | returnToTop : SharedOp s ⟨.ret, []⟩ (returnToTop .spec s)
  | nop {len : Word} : SharedOp s ⟨.nop, []⟩ (.next (advance len s))
  | setCarry {m : Mnemonic} {v : Bool} {len : Word} (hm : m ∈ [.clc, .cmc, .stc]) : SharedOp s ⟨m, []⟩ (setCarry v len s)
  | halt {len : Word} : SharedOp s ⟨.halt, []⟩ (haltMachine .spec len s)

/-- Every instruction runs the shared operation of its written form. -/
theorem exec_sharedOp (i : Instr) (s : State) : SharedOp s i.asm (exec i s) := by
  cases i <;> constructor <;> simp [Mnemonic.family]

/-! ### Instructions that one written form singles out -/

theorem eq_halt_of_mnemonic {i : Instr} (h : i.asm.mnemonic = .halt) : i = .halt := by
  cases i <;> cases h
  rfl

theorem eq_popF_of_asm {i : Instr} (h : i.asm = Instr.asm .popF) : i = .popF := by
  cases i <;> cases h
  rfl

end Sys2Proof.Machine
end

section
/-! PROOFS. The statements on the halted bit (spec/10_state.md R33) and on which families write the flags (R18). -/

namespace Sys2Proof.Machine

/-! ### The halted bit (R33) -/

/-- No operation but that of `HALT` touches the halted bit. -/
theorem SharedOp.halted_eq {a : Asm} {r : Res State} {s t : State} (h : SharedOp s a r) (ht : r = .next t)
    (ha : a.mnemonic ≠ .halt) : t.halted = s.halted := by
  cases h with
  | mov8 hd => obtain ⟨v, u, -, hu, rfl⟩ := mov8_eq_next.1 ht; simpa using writeLoc8_halted hu
  | mov16 => obtain ⟨v, u, -, hu, rfl⟩ := mov16_eq_next.1 ht; simpa using writeLoc16_halted hu
  | input => obtain ⟨v, rest, n, rfl⟩ := input_eq_next ht; simp
  | output => cases (output_eq ..).symm.trans ht; rfl
  | push8 => obtain ⟨v, -, rfl⟩ := push8_eq_next.1 ht; rfl
  | pop8 => obtain ⟨v, u, -, hu, rfl⟩ := pop8_eq_next.1 ht; simpa using writeLoc8_halted hu
  | push16 => cases (push16_eq ..).symm.trans ht; rfl
  | pop16 => obtain ⟨v, -, rfl⟩ := pop16_eq_next.1 ht; simp
  | unary8Reg | unary8Mem => obtain ⟨v, u, -, hu, rfl⟩ := unary8_eq_next.1 ht; simpa using writeLoc8_halted hu
  | unary16Pair | unary16Sp => obtain ⟨v, u, -, hu, rfl⟩ := unary16_eq_next.1 ht; simpa using writeLoc16_halted hu
  | compare8 => obtain ⟨b, -, rfl⟩ := compare8_eq_next.1 ht; rfl
  | mul | imul | expandSign => cases ht; rfl
  | div | idiv => obtain ⟨q, r, rfl⟩ := divide_eq_next ht; rfl
  | binary8 => obtain ⟨b, -, rfl⟩ := binary8_eq_next.1 ht; simp
  | binary16Pair | binary16Sp => obtain ⟨a, b, u, -, -, hu, rfl⟩ := binary16_eq_next.1 ht; simpa using writeLoc16_halted hu
  | branchRel => cases (branchRel_eq ..).symm.trans ht; rfl
  | loopRel => cases (loopRel_eq ..).symm.trans ht; simp
  | returnToTop => obtain ⟨v, -, rfl⟩ := returnToTop_eq_next.1 ht; rfl
  | callTo => cases (callTo_eq ..).symm.trans ht; rfl
  | jumpTo | setCarry | nop => cases ht; rfl
  | halt => exact absurd rfl ha

/-- Settles O8: a turn of the cycle needs a running machine, and of all operations `HALT`'s alone writes the halted bit. -/
theorem haltedMachineStaysHalted : Obligations.HaltedMachineStaysHalted := by
  refine ⟨fun s t h => (cycle_eq_next.1 h).1, fun i s t h => ?_, fun s => ⟨_, haltMachine_eq 1 s, rfl⟩⟩
  split
  · next hi => subst hi; cases (haltMachine_eq 1 s).symm.trans h; rfl
  · next hi => exact (exec_sharedOp i s).halted_eq h (mt eq_halt_of_mnemonic hi)

/-! ### The flags (R18) -/

/-- What an operation can do to the flags: it is arithmetic or logic, it is `POP F`, it writes the carry alone, or it writes none. -/
theorem SharedOp.flags_cases {a : Asm} {r : Res State} {s t : State} (h : SharedOp s a r) (ht : r = .next t) :
    a.mnemonic.family = .arithmeticLogic ∨ a = Instr.asm .popF ∨
      (a.mnemonic ∈ [.clc, .cmc, .stc] ∧ t.flags = { s.flags with carry := t.flags.carry }) ∨ t.flags = s.flags := by
  cases h with
  | unary8Reg hm | unary16Pair hm | binary8 hm | binary16Pair hm => exact .inl hm
  | unary8Mem hm | unary16Sp hm | binary16Sp hm => rcases hm with rfl | rfl <;> exact .inl rfl
  | compare8 | mul | imul | div | idiv | expandSign => exact .inl rfl
  | setCarry hm => cases ht; exact .inr (.inr (.inl ⟨hm, rfl⟩))
  | @pop8 l len =>
    obtain ⟨v, u, -, hu, rfl⟩ := pop8_eq_next.1 ht
    by_cases hl : l = .flags
    · subst hl; exact .inr (.inl rfl)
    · simp [writeLoc8_flags hu hl]
  | mov8 hd => obtain ⟨v, u, -, hu, rfl⟩ := mov8_eq_next.1 ht; simp [writeLoc8_flags hu hd]
  | mov16 => obtain ⟨v, u, -, hu, rfl⟩ := mov16_eq_next.1 ht; simp [writeLoc16_flags hu]
  | input => obtain ⟨v, rest, n, rfl⟩ := input_eq_next ht; simp
  | output => cases (output_eq ..).symm.trans ht; simp
  | push8 => obtain ⟨v, -, rfl⟩ := push8_eq_next.1 ht; simp
  | push16 => cases (push16_eq ..).symm.trans ht; simp
  | pop16 => obtain ⟨v, -, rfl⟩ := pop16_eq_next.1 ht; simp
  | branchRel => cases (branchRel_eq ..).symm.trans ht; simp
  | loopRel => cases (loopRel_eq ..).symm.trans ht; simp
  | returnToTop => obtain ⟨v, -, rfl⟩ := returnToTop_eq_next.1 ht; simp
  | callTo => cases (callTo_eq ..).symm.trans ht; simp
  | halt | jumpTo | nop => cases ht; simp

theorem family_of_mem_carry {m : Mnemonic} (h : m ∈ [Mnemonic.clc, .cmc, .stc]) : m.family = .control := by
  simp only [List.mem_cons, List.not_mem_nil, or_false] at h
  rcases h with rfl | rfl | rfl <;> rfl

/-- Settles O14: each of the four things an instruction can do to the flags lies in a family that R18 lets do it. -/
theorem flagsByFamily : Obligations.FlagsByFamily := by
  intro i s t h
  have hplain : i = .halt ∨ i = .nop → i.asm.mnemonic.family = .control ∧ i.asm.mnemonic ∉ [.clc, .cmc, .stc] := by
    rintro (rfl | rfl) <;> decide
  rcases (exec_sharedOp i s).flags_cases h with harith | hpop | ⟨hcarry, hflags⟩ | hflags
  · refine ⟨by simp [harith], by simp [harith], by simp [harith], fun hi => ?_⟩
    simp [(hplain hi).1] at harith
  · obtain rfl := eq_popF_of_asm hpop
    simp [Instr.asm, Mnemonic.family]
  · have hcontrol := family_of_mem_carry hcarry
    exact ⟨by simp [hcontrol], by simp [hcontrol], fun _ => hflags, fun hi => absurd hcarry (hplain hi).2⟩
  · simp [hflags]

end Sys2Proof.Machine
end

section
/-! PROOFS. The absolute jump (spec/46_branches.md R405 to R407). -/

namespace Sys2Proof.Machine

/-- `JMP` always completes: the target is copied to `IP`, and no other field of the state is written (R372). -/
theorem jumpTo_eq (target : Word) (s : State) : jumpTo target s = .next { s with ip := target } := rfl

/-- Settles O50: each of the three forms runs `jumpTo` on its own operand, and none of them reads memory, so none can stop. -/
theorem jumpAbsolute : Obligations.JumpAbsolute := fun s x =>
  ⟨jumpTo_eq x s, jumpTo_eq (s.pair .AB) s, jumpTo_eq (s.pair .CD) s⟩

end Sys2Proof.Machine
end

section
/-! PROOFS. The instructions that write the carry and `NOP` (spec/47_control.md R421 to R423, R425). -/

namespace Sys2Proof.Machine

/-- Moving past an instruction writes `IP` and no other field of the state (R34). -/
theorem advance_eq (len : Word) (s : State) : advance len s = { s with ip := s.ip + len } := rfl

/-- `setCarry` always completes: it writes `C` and `IP`, and no other flag and no other field of the state. -/
theorem setCarry_eq (v : Bool) (len : Word) (s : State) :
    setCarry v len s = .next { s with flags := { s.flags with carry := v }, ip := s.ip + len } := by
  rw [setCarry, advance_eq]

/-- Settles O56: each of the three runs `setCarry` at length one, on 0, on the complement of the old carry, and on 1. -/
theorem carryControl : Obligations.CarryControl := fun s =>
  ⟨setCarry_eq false 1 s, setCarry_eq (!s.flags.carry) 1 s, setCarry_eq true 1 s⟩

/-- `NOP` is one byte long and only moves past itself (R425). -/
theorem exec_nop (s : State) : exec .nop s = .next (advance 1 s) := rfl

/-- Settles O58: moving past one byte is all that `NOP` does, and it writes `IP` alone. -/
theorem nopOnlyAdvances : Obligations.NopOnlyAdvances := fun s => by
  rw [exec_nop, advance_eq]

end Sys2Proof.Machine
end

section
/-! SUPPORT. The table of R70 as data: what the operand bytes of a row give and are given by, and the row of each instruction. -/

namespace Sys2Proof

open Machine

/-! ### A row and the values of its operand bytes -/

/-- The instruction of a row whose operand bytes hold the given 16-bit value and the given byte (R61). -/
def Row.apply (row : Row) (w : Word) (v : Byte) : Instr :=
  match row with
  | .f0 i => i
  | .f1 k => k v
  | .f2 k | .disp k => k w
  | .f3 k => k w v

/-- The operand bytes of that instruction (R61, R64). -/
def Row.operandBytes (cfg : Config) (row : Row) (w : Word) (v : Byte) : List Byte :=
  match row with
  | .f0 _ => []
  | .f1 _ => [v]
  | .f2 _ => encodeF2 cfg w
  | .disp _ => displacementBytes cfg w
  | .f3 _ => encodeF3 cfg w v

/-- Whether the operand bytes give the 16-bit value back: a displacement can be too wide for them (`DISP_WIDTH`). -/
def Row.encodable (cfg : Config) (row : Row) (w : Word) : Bool :=
  match row with
  | .disp _ => displacementOf cfg (displacementBytes cfg w) == some w
  | _ => true

/-- Under every configuration the operand bytes and the opcode make up the length of the row (R62). -/
theorem Row.length_operandBytes (cfg : Config) (row : Row) (w : Word) (v : Byte) :
    (row.operandBytes cfg w v).length + 1 = row.length cfg := by
  cases row with
  | f0 | f1 | f2 => rfl
  | disp k => exact Row.length_disp cfg 0 k w
  | f3 k => exact Row.length_f3 cfg 0 k w v

/-- No instruction is longer than four bytes (R62). -/
theorem Row.length_le (cfg : Config) (row : Row) : row.length cfg ≤ 4 := by
  cases row with
  | f0 | f1 | f2 | f3 => simp [Row.length]
  | disp k =>
    simp only [Row.length, indexedLength]
    cases cfg.dispWidth <;> decide

/-- Operand bytes, whatever follows them, are read back as the values they were made from. -/
theorem Row.assemble_operandBytes {cfg : Config} {row : Row} {w : Word} (h : row.encodable cfg w = true) (v : Byte)
    (rest : List Byte) : row.assemble cfg (row.operandBytes cfg w v ++ rest) = .ok (row.apply w v) := by
  cases row with
  | f0 | f1 => rfl
  | f2 k => exact Row.assemble_f2 cfg k w rest
  | disp k => exact Row.assemble_disp (beq_iff_eq.1 h) k rest
  | f3 k => exact Row.assemble_f3 cfg k w v rest

theorem displacementOf_isSome {cfg : Config} {bytes : List Byte} (h : (indexedLength cfg).toNat ≤ bytes.length + 1) :
    ∃ d, displacementOf cfg bytes = some d := by
  unfold indexedLength at h
  unfold displacementOf
  cases hd : cfg.dispWidth <;> simp only [hd] at h
  · obtain ⟨b1, b2, rest, rfl⟩ : ∃ b1 b2 rest, bytes = b1 :: b2 :: rest := by
      match bytes with
      | [] | [_] => simp at h
      | b1 :: b2 :: rest => exact ⟨b1, b2, rest, rfl⟩
    exact ⟨_, rfl⟩
  all_goals
    obtain ⟨b1, rest, rfl⟩ := List.exists_cons_of_ne_nil (l := bytes) (by rintro rfl; simp at h)
    exact ⟨_, rfl⟩

/-- A displacement that was read begins with its own bytes. -/
theorem displacementBytes_of_displacementOf {cfg : Config} {bytes : List Byte} {d : Word}
    (h : displacementOf cfg bytes = some d) :
    displacementBytes cfg d = bytes.take ((indexedLength cfg).toNat - 1) ∧ (indexedLength cfg).toNat ≤ bytes.length + 1 := by
  unfold displacementOf at h
  unfold displacementBytes indexedLength
  split at h <;> simp_all
  · subst h; simp
  · subst h; simp
  · subst h; simp

/-- Enough bytes for the length of the row are read as some values. -/
theorem Row.assemble_isOk {cfg : Config} {row : Row} {bytes : List Byte} (h : row.length cfg ≤ bytes.length + 1) :
    ∃ i, row.assemble cfg bytes = .ok i := by
  cases row with
  | f0 i => exact ⟨i, rfl⟩
  | f1 k =>
    match bytes with
    | [] => simp [Row.length] at h
    | b1 :: _ => exact ⟨k b1, rfl⟩
  | f2 k =>
    match bytes with
    | [] | [_] => simp [Row.length] at h
    | b1 :: b2 :: _ => exact ⟨_, rfl⟩
  | disp k =>
    obtain ⟨d, hd⟩ := displacementOf_isSome h
    exact ⟨k d, by simp only [Row.assemble, hd]⟩
  | f3 k =>
    match bytes with
    | [] | [_] | [_, _] => simp [Row.length] at h
    | b1 :: b2 :: b3 :: _ =>
      unfold Row.assemble
      cases cfg.operandLayout <;> exact ⟨_, rfl⟩

/-- What a row reads are values whose operand bytes are the bytes read, and it reads as many as its length says. -/
theorem Row.eq_apply_of_assemble {cfg : Config} {row : Row} {bytes : List Byte} {i : Instr}
    (h : row.assemble cfg bytes = .ok i) : row.length cfg ≤ bytes.length + 1 ∧
      ∃ w v, i = row.apply w v ∧ row.operandBytes cfg w v = bytes.take (row.length cfg - 1) := by
  cases row with
  | f0 j => cases h; exact ⟨Nat.le_add_left .., 0, 0, rfl, rfl⟩
  | f1 k =>
    match bytes with
    | [] => cases h
    | b1 :: _ => cases h; exact ⟨by simp [Row.length], 0, b1, rfl, rfl⟩
  | f2 k =>
    match bytes with
    | [] | [_] => cases h
    | b1 :: b2 :: _ =>
      cases h
      exact ⟨by simp [Row.length], joinBytes cfg b1 b2, 0, rfl, by simp [Row.operandBytes, encodeF2, Row.length]⟩
  | disp k =>
    simp only [Row.assemble] at h
    cases hd : displacementOf cfg bytes with
    | none => simp [hd] at h
    | some d =>
      simp only [hd, Except.ok.injEq] at h
      obtain ⟨hbytes, hlen⟩ := displacementBytes_of_displacementOf hd
      exact ⟨hlen, d, 0, h.symm, hbytes⟩
  | f3 k =>
    match bytes with
    | [] | [_] | [_, _] => cases h
    | b1 :: b2 :: b3 :: _ =>
      refine ⟨by simp [Row.length], ?_⟩
      simp only [Row.assemble] at h
      cases ho : cfg.operandLayout <;> simp only [ho, Except.ok.injEq] at h
      · exact ⟨joinBytes cfg b1 b2, b3, h.symm, by simp [Row.operandBytes, encodeF3, ho, Row.length]⟩
      · exact ⟨joinBytes cfg b2 b3, b1, h.symm, by simp [Row.operandBytes, encodeF3, ho, Row.length]⟩

/-! ### The row of each instruction -/

/-- The 16-bit value that an operand takes from the instruction bytes, if it takes one (R64). -/
def Operand.wordValue : Operand → Option Word
  | .word (.imm w) | .byte (.loc (.mem (.direct w))) | .word (.loc (.mem (.direct w))) => some w
  | .byte (.loc (.mem (.indexed _ w))) | .word (.loc (.mem (.indexed _ w))) => some w
  | _ => none

/-- The byte that an operand takes from the instruction bytes, if it takes one (R63). -/
def Operand.byteValue : Operand → Option Byte
  | .byte (.imm v) | .rel8 v => some v
  | _ => none

/-- The 16-bit value among the operands; no instruction has two (R61). -/
def Asm.wordValue (t : Asm) : Word := (t.operands.findSome? Operand.wordValue).getD 0

/-- The byte among the operands; no instruction has two (R61). -/
def Asm.byteValue (t : Asm) : Byte := (t.operands.findSome? Operand.byteValue).getD 0

/-- An instruction as written, without the values of its operand bytes: what the opcode alone selects (R60). -/
def Asm.blank (t : Asm) : Asm := ⟨t.mnemonic, t.operands.map shapeOf⟩

/-- The place of an instruction's row in the list of R70, which the spec's own numbering makes its opcode (D1). -/
def opcodeOf (i : Instr) : Byte := (encodeWith .spec i).headD 0

/-- Every instruction is the one its row gives for the values of its operands. -/
theorem instr_row (i : Instr) : ∃ row, opcodeRows[(opcodeOf i).toNat]? = some row ∧
    row.apply i.asm.wordValue i.asm.byteValue = i ∧ (row.apply 0 0).asm = i.asm.blank ∧
    ∀ cfg, i.encodable cfg = row.encodable cfg i.asm.wordValue := by
  cases i <;> refine ⟨_, rfl, rfl, rfl, fun cfg => ?_⟩ <;>
    simp [Instr.encodable, Instr.asm, Operand.encodable, Row.encodable, Asm.wordValue, List.findSome?, Operand.wordValue]

set_option maxRecDepth 10000 in
/-- The encoder, row by row: the opcode of the row's place, then the operand bytes. -/
theorem encodeWith_rows (cfg : Config) (w : Word) (v : Byte) : opcodeRows.map (fun row => encodeWith cfg (row.apply w v)) =
    opcodeRows.zipIdx.map fun p => cfg.opcodeMap (BitVec.ofNat 8 p.2) :: p.1.operandBytes cfg w v := rfl

set_option maxRecDepth 10000 in
theorem length_opcodeRows : opcodeRows.length = 256 := rfl

/-- There is a row for every byte value (R71). -/
theorem opcodeRows_isSome (n : Byte) : ∃ row, opcodeRows[n.toNat]? = some row :=
  ⟨_, List.getElem?_eq_getElem (length_opcodeRows ▸ n.isLt)⟩

theorem encodeWith_apply (cfg : Config) {n : Byte} {row : Row} (h : opcodeRows[n.toNat]? = some row) (w : Word) (v : Byte) :
    encodeWith cfg (row.apply w v) = cfg.opcodeMap n :: row.operandBytes cfg w v := by
  have hn := congrArg (·[n.toNat]?) (encodeWith_rows cfg w v)
  simpa [h] using hn

@[simp] theorem opcodeOf_apply {n : Byte} {row : Row} (h : opcodeRows[n.toNat]? = some row) (w : Word) (v : Byte) :
    opcodeOf (row.apply w v) = n := by
  simp [opcodeOf, encodeWith_apply .spec h]

/-- The encoding of any instruction, through its row. -/
theorem encodeWith_row (cfg : Config) {i : Instr} {row : Row} (hrow : opcodeRows[(opcodeOf i).toNat]? = some row)
    (hi : row.apply i.asm.wordValue i.asm.byteValue = i) :
    encodeWith cfg i = cfg.opcodeMap (opcodeOf i) :: row.operandBytes cfg i.asm.wordValue i.asm.byteValue := by
  have h := encodeWith_apply cfg hrow i.asm.wordValue i.asm.byteValue
  rwa [hi] at h

theorem head?_encodeWith (cfg : Config) (i : Instr) : (encodeWith cfg i).head? = some (cfg.opcodeMap (opcodeOf i)) := by
  obtain ⟨row, hrow, hi, -⟩ := instr_row i
  rw [encodeWith_row cfg hrow hi, List.head?_cons]

/-- Bytes that decode begin with the encoding of what they decode to, which has the length that the first of them gives. -/
theorem encodeWith_of_decodeWith {cfg : Config} {b : Byte} {rest : List Byte} {i : Instr}
    (h : decodeWith cfg (b :: rest) = .ok i) : ∃ row, rowOf cfg b = some row ∧
      encodeWith cfg i = (b :: rest).take (row.length cfg) ∧ row.length cfg ≤ rest.length + 1 := by
  obtain ⟨row, hrow⟩ := opcodeRows_isSome (cfg.opcodeMap.symm b)
  obtain ⟨hlen, w, v, rfl, hbytes⟩ := Row.eq_apply_of_assemble ((decodeWith_cons hrow rest).symm.trans h)
  refine ⟨row, hrow, ?_, hlen⟩
  obtain ⟨n, hn⟩ : ∃ n, row.length cfg = n + 1 := ⟨_, (Row.length_operandBytes cfg row w v).symm⟩
  simp only [encodeWith_apply cfg hrow, Equiv.apply_symm_apply, hbytes, hn, List.take_succ_cons, Nat.add_sub_cancel]

end Sys2Proof
end

section
/-! PROOFS. The decoder and the encoder (spec/30_encoding.md sections 1, 2 and 4). -/

namespace Sys2Proof

open Machine

/-- Settles O1: an instruction's row reads back the operand bytes it wrote; only a displacement can be too wide for them, and none is
where they have 16 bits. -/
theorem decodeEncodeRoundTrip : Obligations.DecodeEncodeRoundTrip := by
  refine ⟨fun cfg i rest h => ?_, fun cfg i h => ?_⟩
  · obtain ⟨row, hrow, hi, -, henc⟩ := instr_row i
    rw [encodeWith_row cfg hrow hi, List.cons_append, decodeWith_opcodeMap hrow,
      Row.assemble_operandBytes ((henc cfg).symm.trans h), hi]
  · obtain ⟨row, -, -, -, henc⟩ := instr_row i
    rw [henc]
    cases row with
    | disp k => exact beq_iff_eq.2 (displacementOf_bits16 h _)
    | f0 | f1 | f2 | f3 => rfl

/-- Settles O2: the first byte has a row, no row is longer than four bytes, and what a row reads encodes to the bytes read. -/
theorem everyFourBytesAreOneInstruction : Obligations.EveryFourBytesAreOneInstruction := by
  intro cfg b0 b1 b2 b3
  obtain ⟨row, hrow⟩ := opcodeRows_isSome (cfg.opcodeMap.symm b0)
  obtain ⟨i, hi⟩ := Row.assemble_isOk (bytes := [b1, b2, b3]) (row.length_le cfg)
  have hdecode := (decodeWith_cons hrow [b1, b2, b3]).trans hi
  obtain ⟨row', hrow', henc, -⟩ := encodeWith_of_decodeWith hdecode
  exact ⟨i, row'.length cfg, hdecode, congrArg _ hrow', henc⟩

end Sys2Proof
end

section
/-! PROOFS. What an instruction can do to memory (spec/20_memory.md sections 3 and 6), and what follows for the invariant. -/

namespace Sys2Proof.Machine

/-! ### Several bytes stored -/

/-- The memory after bytes were stored one after another. -/
def Memory.putAll (m : Memory) (cells : List (Word × Byte)) : Memory :=
  cells.foldl (fun m c => Memory.put m c.1.toNat c.2) m

theorem Memory.putAll_wf {m : Memory} (h : m.wf) (cells : List (Word × Byte)) : (m.putAll cells).wf := by
  induction cells generalizing m with
  | nil => exact h
  | cons c rest ih => exact ih (Memory.put_wf m _ c.2 c.1.isLt h)

/-- A position that none of the bytes was stored to reads as before. -/
theorem Memory.get?_putAll_of_notMem (m : Memory) (cells : List (Word × Byte)) (x : Word) (h : ∀ c ∈ cells, c.1 ≠ x) :
    Memory.get? (m.putAll cells) x.toNat = Memory.get? m x.toNat := by
  induction cells generalizing m with
  | nil => rfl
  | cons c rest ih =>
    obtain ⟨hc, hrest⟩ := List.forall_mem_cons.1 h
    calc Memory.get? ((m.put c.1.toNat c.2).putAll rest) x.toNat
        = Memory.get? (m.put c.1.toNat c.2) x.toNat := ih _ hrest
      _ = Memory.get? m x.toNat := by rw [Memory.get?_put_word, if_neg (Ne.symm hc)]

/-- A position that holds a value goes on holding one. -/
theorem Memory.isSome_get?_putAll (m : Memory) (cells : List (Word × Byte)) (x : Word)
    (h : (Memory.get? m x.toNat).isSome = true) : (Memory.get? (m.putAll cells) x.toNat).isSome = true := by
  induction cells generalizing m with
  | nil => exact h
  | cons c rest ih =>
    refine ih _ ?_
    rw [Memory.get?_put_word]
    split
    · rfl
    · exact h

/-! ### The positions an instruction stores to -/

/-- A write to an 8-bit location stores one byte where the location is a memory position, and none elsewhere. -/
theorem writeLoc8_mem {l : Loc8} {v : Byte} {s t : State} (h : writeLoc8 .spec l v s = .next t) :
    t.mem = s.mem ∨ ∃ m, l = .mem m ∧ t.mem = Memory.put s.mem (effectiveAddress .spec m s).toNat v := by
  cases l with
  | reg r => cases h; exact .inl (by simp)
  | flags => cases h; exact .inl rfl
  | mem m => cases h; exact .inr ⟨m, rfl, rfl⟩

/-- A write to a 16-bit location stores two bytes where the location is in memory, and none elsewhere. -/
theorem writeLoc16_mem {l : Loc16} {v : Word} {s t : State} (h : writeLoc16 .spec l v s = .next t) :
    t.mem = s.mem ∨ ∃ m, l = .mem m ∧ t.mem = Memory.put (Memory.put s.mem (effectiveAddress .spec m s).toNat (hiByte v))
      (effectiveAddress .spec m s + 1).toNat (loByte v) := by
  cases l with
  | pair p => cases h; exact .inl (by simp)
  | sp => cases h; exact .inl rfl
  | mem m => cases h; exact .inr ⟨m, rfl, rfl⟩

/-- An instruction that completes has stored bytes at some of the positions it stores to, and nowhere else. -/
theorem exec_mem {i : Instr} {s t : State} (h : exec i s = .next t) :
    ∃ cells, t.mem = s.mem.putAll cells ∧ ∀ c ∈ cells, c.1 ∈ storesTo i s := by
  have hop := exec_sharedOp i s
  have hnone : t.mem = s.mem → ∃ cells, t.mem = s.mem.putAll cells ∧ ∀ c ∈ cells, c.1 ∈ storesTo i s :=
    fun hmem => ⟨[], hmem, by simp⟩
  unfold storesTo at hnone ⊢
  generalize i.asm = a at hop hnone ⊢
  generalize exec i s = r at hop h
  cases hop with
  | mov8 hd =>
    obtain ⟨v, u, -, hu, rfl⟩ := mov8_eq_next.1 h
    rcases writeLoc8_mem hu with hmem | ⟨m, rfl, hmem⟩
    · exact hnone hmem
    · exact ⟨[(effectiveAddress .spec m s, v)], hmem, by simp⟩
  | mov16 =>
    obtain ⟨v, u, -, hu, rfl⟩ := mov16_eq_next.1 h
    rcases writeLoc16_mem hu with hmem | ⟨m, rfl, hmem⟩
    · exact hnone hmem
    · exact ⟨[(effectiveAddress .spec m s, hiByte v), (effectiveAddress .spec m s + 1, loByte v)], hmem, by simp⟩
  | push8 =>
    obtain ⟨v, -, rfl⟩ := push8_eq_next.1 h
    exact ⟨[(s.sp - 1, v)], rfl, by simp⟩
  | @push16 p len =>
    cases (push16_eq ..).symm.trans h
    exact ⟨[(s.sp - 2, hiByte (s.pair p)), (s.sp - 2 + 1, loByte (s.pair p))], rfl, by simp⟩
  | pop8 =>
    obtain ⟨v, u, -, hu, rfl⟩ := pop8_eq_next.1 h
    rcases writeLoc8_mem hu with hmem | ⟨m, rfl, hmem⟩
    · exact hnone hmem
    · exact ⟨[(effectiveAddress .spec m s, v)], hmem, by simp⟩
  | unary8Mem hm =>
    obtain ⟨v, u, -, hu, rfl⟩ := unary8_eq_next.1 h
    rcases writeLoc8_mem hu with hmem | ⟨m, hl, hmem⟩
    · exact hnone hmem
    · obtain rfl := Loc8.mem.inj hl
      rcases hm with rfl | rfl <;> exact ⟨[(effectiveAddress .spec _ s, _)], hmem, by simp⟩
  | @callTo os target len =>
    cases (callTo_eq ..).symm.trans h
    exact ⟨[(s.sp - 2, hiByte (s.ip + len)), (s.sp - 2 + 1, loByte (s.ip + len))], rfl, by simp⟩
  | input => obtain ⟨v, rest, n, rfl⟩ := input_eq_next h; exact hnone (by simp)
  | output => cases (output_eq ..).symm.trans h; exact hnone rfl
  | pop16 => obtain ⟨v, -, rfl⟩ := pop16_eq_next.1 h; exact hnone (by simp)
  | unary8Reg => cases (unary8_reg ..).symm.trans h; exact hnone (by simp)
  | unary16Pair => cases (unary16_pair ..).symm.trans h; exact hnone (by simp)
  | unary16Sp => cases (unary16_sp ..).symm.trans h; exact hnone rfl
  | compare8 => obtain ⟨b, -, rfl⟩ := compare8_eq_next.1 h; exact hnone rfl
  | mul | imul | expandSign | jumpTo | setCarry | nop | halt => cases h; exact hnone rfl
  | div | idiv => obtain ⟨q, r, rfl⟩ := divide_eq_next h; exact hnone rfl
  | binary8 => obtain ⟨b, -, rfl⟩ := binary8_eq_next.1 h; exact hnone (by simp)
  | binary16Pair | binary16Sp =>
    obtain ⟨a, b, u, -, -, hu, rfl⟩ := binary16_eq_next.1 h
    cases hu
    exact hnone (by simp)
  | branchRel => cases (branchRel_eq ..).symm.trans h; exact hnone rfl
  | loopRel => cases (loopRel_eq ..).symm.trans h; exact hnone (by simp)
  | returnToTop => obtain ⟨v, -, rfl⟩ := returnToTop_eq_next.1 h; exact hnone rfl

/-- A step that answers a next state ran some instruction. -/
theorem step_eq_next {s t : State} (h : step s = .next t) : ∃ i, exec i s = .next t :=
  let ⟨_, i, _, hi⟩ := cycle_eq_next.1 h
  ⟨i, hi⟩

/-- Settles O9: a step changes memory by storing bytes, and storing a byte at an address keeps the canonical form. -/
theorem stepKeepsInvariant : Obligations.StepKeepsInvariant := by
  intro s t hs h
  obtain ⟨i, hi⟩ := step_eq_next h
  obtain ⟨cells, hmem, -⟩ := exec_mem hi
  rw [State.Inv, hmem]
  exact Memory.putAll_wf hs cells

/-- Settles O15: the positions that bytes were stored to are among those the instruction stores to. -/
theorem memoryFrame : Obligations.MemoryFrame := by
  intro i s t x h hx
  obtain ⟨cells, hmem, hcells⟩ := exec_mem h
  rw [State.peek, State.peek, hmem]
  exact Memory.get?_putAll_of_notMem s.mem cells x fun c hc hcx => hx (hcx ▸ hcells c hc)

/-- A step takes no position's value away. -/
theorem step_isSome_peek {s t : State} {x : Word} (h : step s = .next t) (hx : (s.peek x).isSome = true) :
    (t.peek x).isSome = true := by
  obtain ⟨i, hi⟩ := step_eq_next h
  obtain ⟨cells, hmem, -⟩ := exec_mem hi
  rw [State.peek, hmem]
  exact Memory.isSome_get?_putAll s.mem cells x hx

end Sys2Proof.Machine
end

section
/-! PROOFS. Where a step stops (spec/60_exceptions.md sections 1 and 6). -/

namespace Sys2Proof.Machine

/-! ### Parts of an instruction that can only meet an unspecified position -/

/-- A part of an instruction goes on, or stops at a position that holds no value: it neither refuses nor stops otherwise. -/
def Answers {α : Type} (s : State) (r : Res α) : Prop :=
  (∃ y, r = .next y) ∨ ∃ x, r = .fault (.unspecifiedRead x) ∧ s.peek x = none

theorem Answers.next {α : Type} (s : State) (y : α) : Answers s (.next y : Res α) := .inl ⟨y, rfl⟩

/-- Parts one after another. -/
theorem Answers.andThen {α β : Type} {s : State} {r : Res α} {k : α → Res β} (hr : Answers s r)
    (hk : ∀ y, r = .next y → Answers s (k y)) : Answers s (andThen r k) := by
  rcases hr with ⟨y, rfl⟩ | ⟨x, rfl, hx⟩
  · exact hk y rfl
  · exact .inr ⟨x, rfl, hx⟩

/-- A part that always goes on, then another. -/
theorem Answers.andThen_next {α : Type} {s : State} {r : Res α} (hr : Answers s r) (f : α → State) :
    Answers s (Machine.andThen r fun y => .next (f y)) :=
  hr.andThen fun y _ => .next s (f y)

theorem answers_readByte (a : Word) (s : State) : Answers s (readByte .spec a s) := by
  rw [readByte_eq]
  cases h : s.peek a with
  | none => exact .inr ⟨a, rfl, h⟩
  | some v => exact .next s v

theorem answers_readWord (a : Word) (s : State) : Answers s (readWord .spec a s) :=
  (answers_readByte a s).andThen fun _ _ => (answers_readByte (a + 1) s).andThen fun _ _ => .next s _

theorem answers_readLoc8 (l : Loc8) (s : State) : Answers s (readLoc8 .spec l s) := by
  cases l with
  | reg | flags => exact .next s _
  | mem m => exact answers_readByte _ s

theorem answers_readLoc16 (l : Loc16) (s : State) : Answers s (readLoc16 .spec l s) := by
  cases l with
  | pair | sp => exact .next s _
  | mem m => exact answers_readWord _ s

theorem answers_readSrc8 (o : Src8) (s : State) : Answers s (readSrc8 .spec o s) := by
  cases o with
  | imm v => exact .next s v
  | loc l => exact answers_readLoc8 l s

theorem answers_readSrc16 (o : Src16) (s : State) : Answers s (readSrc16 .spec o s) := by
  cases o with
  | imm v => exact .next s v
  | loc l => exact answers_readLoc16 l s

/-- Writes always go on, whatever the state `s` that the instruction began with and the state `u` that it writes. -/
theorem answers_writeLoc8 (l : Loc8) (v : Byte) (s u : State) : Answers s (writeLoc8 .spec l v u) := by
  obtain ⟨t, ht, -⟩ := writeLoc8_next l v u
  exact .inl ⟨t, ht⟩

theorem answers_writeLoc16 (l : Loc16) (v : Word) (s u : State) : Answers s (writeLoc16 .spec l v u) := by
  obtain ⟨t, ht, -⟩ := writeLoc16_next l v u
  exact .inl ⟨t, ht⟩

theorem answers_popByte (s : State) : Answers s (popByte .spec s) :=
  (answers_readByte s.sp s).andThen fun _ _ => .next s _

theorem answers_popWord (s : State) : Answers s (popWord .spec s) :=
  (answers_readWord s.sp s).andThen fun _ _ => .next s _

/-! ### The instructions -/

/-- `DIV` raises its fault for the cause it finds, and only where it finds one. -/
theorem unsignedDivision_cause {n : Word} {d : Byte} {cause : DivideCause} (h : unsignedDivision n d = .error cause) :
    cause = .zero ↔ d = 0 := by
  have hd : d.toNat = 0 ↔ d = 0 := BitVec.toNat_inj (y := 0)
  simp only [unsignedDivision] at h
  split at h
  · next h0 => cases h; exact iff_of_true rfl (hd.1 h0)
  · next h0 =>
    split at h <;> cases h
    exact iff_of_false (by simp) (mt hd.2 h0)

theorem signedDivision_cause {n : Word} {d : Byte} {cause : DivideCause} (h : signedDivision n d = .error cause) :
    cause = .zero ↔ d = 0 := by
  have hd : d.toInt = 0 ↔ d = 0 := BitVec.toInt_inj (y := 0)
  simp only [signedDivision] at h
  split at h
  · next h0 => cases h; exact iff_of_true rfl (hd.1 h0)
  · next h0 =>
    split at h <;> cases h
    exact iff_of_false (by simp) (mt hd.2 h0)

/-- A division goes on, or raises `DivideError` with the cause it found. -/
theorem divide_cases {division : Word → Byte → Except DivideCause (Byte × Byte)}
    {instead : Config → Word → Byte → Option (Byte × Byte)} (hinstead : ∀ n d, instead .spec n d = none)
    (hcause : ∀ n d cause, division n d = .error cause → (cause = .zero ↔ d = 0)) (len : Word) (s : State) :
    (∃ t, divide .spec division instead len s = .next t) ∨
      ∃ cause, divide .spec division instead len s = .fault (.divideError cause) ∧ (cause = .zero ↔ s.d = 0) := by
  unfold divide
  cases h : division (s.pair .AB) (s.reg .D) with
  | ok p => exact .inl ⟨_, rfl⟩
  | error cause => exact .inr ⟨cause, by simp only [hinstead]; rfl, hcause _ _ _ h⟩

/-- Every operation goes on or stops at a position without a value, but a division, which may raise `DivideError`. -/
theorem SharedOp.answers {a : Asm} {r : Res State} {s : State} (h : SharedOp s a r) : Answers s r ∨
    ∃ cause, r = .fault (.divideError cause) ∧ (a = Instr.asm .divAB_D ∨ a = Instr.asm .idivAB_D) ∧ (cause = .zero ↔ s.d = 0) := by
  cases h with
  | div =>
    rcases divide_cases (instead := unsignedInstead) (fun _ _ => rfl) (fun _ _ _ => unsignedDivision_cause) _ s with ⟨t, ht⟩ | ⟨cause, hc, hzero⟩
    · exact .inl (.inl ⟨t, ht⟩)
    · exact .inr ⟨cause, hc, .inl rfl, hzero⟩
  | idiv =>
    rcases divide_cases (instead := signedInstead) (fun _ _ => rfl) (fun _ _ _ => signedDivision_cause) _ s with ⟨t, ht⟩ | ⟨cause, hc, hzero⟩
    · exact .inl (.inl ⟨t, ht⟩)
    · exact .inr ⟨cause, hc, .inr rfl, hzero⟩
  | mov8 =>
    exact .inl ((answers_readSrc8 _ s).andThen fun _ _ => (answers_writeLoc8 _ _ s s).andThen_next _)
  | mov16 =>
    exact .inl ((answers_readSrc16 _ s).andThen fun _ _ => (answers_writeLoc16 _ _ s s).andThen_next _)
  | push8 => exact .inl ((answers_readLoc8 _ s).andThen fun _ _ => .next s _)
  | pop8 =>
    exact .inl ((answers_popByte s).andThen fun p _ => (answers_writeLoc8 _ _ s p.2).andThen_next _)
  | pop16 => exact .inl ((answers_popWord s).andThen fun _ _ => .next s _)
  | unary8Reg | unary8Mem =>
    exact .inl ((answers_readLoc8 _ s).andThen fun _ _ => (answers_writeLoc8 _ _ s _).andThen_next _)
  | unary16Pair | unary16Sp =>
    exact .inl ((answers_readLoc16 _ s).andThen fun _ _ => (answers_writeLoc16 _ _ s _).andThen_next _)
  | compare8 | binary8 => exact .inl ((answers_readSrc8 _ s).andThen fun _ _ => .next s _)
  | binary16Pair | binary16Sp =>
    exact .inl ((answers_readLoc16 _ s).andThen fun _ _ => (answers_readSrc16 _ s).andThen fun _ _ =>
      (answers_writeLoc16 _ _ s _).andThen_next _)
  | returnToTop => exact .inl ((answers_popWord s).andThen fun _ _ => .next s _)
  | @input r len =>
    left
    unfold Machine.input ioIn
    cases hi : s.input with
    | nil => exact .next s _
    | cons v rest => exact .next s _
  | output | push16 | mul | imul | expandSign | branchRel | loopRel | jumpTo | callTo | nop | setCarry | halt =>
    exact .inl (.next s _)

theorem eq_div_of_asm {i : Instr} (h : i.asm = Instr.asm .divAB_D ∨ i.asm = Instr.asm .idivAB_D) :
    i = .divAB_D ∨ i = .idivAB_D := by
  cases i <;> simp [Instr.asm] at h ⊢

/-! ### The step -/

theorem answers_readBytes (n : Nat) (a : Word) (s : State) : Answers s (readBytes .spec n a s) := by
  induction n generalizing a with
  | zero => exact .next s []
  | succ n ih => exact (answers_readByte a s).andThen fun v _ => (ih (a + 1)).andThen fun rest _ => .next s (v :: rest)

/-- An instruction has at least its opcode (R62). -/
theorem rowLength_pos (cfg : Config) (row : Row) : 0 < row.length cfg :=
  Row.length_operandBytes cfg row 0 0 ▸ Nat.succ_pos _

/-- Bytes that were read are as many as were asked for, the first of them the one at the address. -/
theorem readBytes_eq_next {cfg : Config} {n : Nat} {a : Word} {s : State} {bytes : List Byte}
    (h : readBytes cfg n a s = .next bytes) : bytes.length = n ∧ ∀ v rest, bytes = v :: rest → readByte cfg a s = .next v := by
  induction n generalizing a bytes with
  | zero => cases h; simp
  | succ n ih =>
    obtain ⟨v, hv, h⟩ := andThen_eq_next.1 h
    obtain ⟨rest, hrest, h⟩ := andThen_eq_next.1 h
    cases h
    refine ⟨congrArg (· + 1) (ih hrest).1, ?_⟩
    rintro _ _ ⟨⟩
    exact hv

/-- The fetch meets an unspecified position or gives an instruction: every opcode is one (R71). -/
theorem answers_fetch (s : State) : Answers s (fetch .spec s) := by
  refine (answers_readByte s.ip s).andThen fun opcode hopcode => ?_
  obtain ⟨row, hrow⟩ : ∃ row, rowOf .spec opcode = some row := opcodeRows_isSome _
  simp only [lengthOfOpcode, hrow, Option.map_some]
  refine (answers_readBytes _ s.ip s).andThen fun bytes hbytes => ?_
  obtain ⟨hlen, hhead⟩ := readBytes_eq_next hbytes
  obtain ⟨b, rest, rfl⟩ := List.exists_cons_of_length_pos (l := bytes) (hlen ▸ rowLength_pos .spec row)
  obtain rfl : b = opcode := by simpa [hopcode, eq_comm] using hhead b rest rfl
  obtain ⟨i, hi⟩ := Row.assemble_isOk (bytes := rest) (cfg := .spec) (Nat.le_of_eq hlen.symm)
  simp only [(decodeWith_cons hrow rest).trans hi]
  exact .next s i

/-- What a step can answer: a next state, or one of the listed stops. -/
theorem step_cases (s : State) : (∃ t, step s = .next t) ∨ (s.halted = true ∧ step s = .fault .halted) ∨
    (∃ x, step s = .fault (.unspecifiedRead x) ∧ s.peek x = none) ∨
    ∃ i cause, step s = .fault (.divideError cause) ∧ fetch .spec s = .next i ∧ (i = .divAB_D ∨ i = .idivAB_D) ∧
      (cause = .zero ↔ s.d = 0) := by
  cases hh : s.halted with
  | true => exact .inr (.inl ⟨rfl, by simp [step, cycle, hh, raise]⟩)
  | false =>
    rcases answers_fetch s with ⟨i, hi⟩ | ⟨x, hf, hx⟩
    · rw [step, cycle_of_fetch hh hi]
      rcases (exec_sharedOp i s).answers with (ht | hx) | ⟨cause, hr, ha, hzero⟩
      · exact .inl ht
      · exact .inr (.inr (.inl hx))
      · exact .inr (.inr (.inr ⟨i, cause, hr, hi, eq_div_of_asm ha, hzero⟩))
    · exact .inr (.inr (.inl ⟨x, by simp [step, cycle, hh, hf], hx⟩))

/-- Settles O12: a next state is no stop, and each stop that a step can answer is one of the list. -/
theorem stopsAreOnlyTheListedOnes : Obligations.StopsAreOnlyTheListedOnes := by
  intro s
  rcases step_cases s with ⟨t, h⟩ | ⟨hh, h⟩ | ⟨x, h, hx⟩ | ⟨i, cause, h, hi, hdiv, hzero⟩ <;> rw [h] <;>
    refine ⟨by simp, ?_⟩ <;> rintro f ⟨⟩
  · exact .inl ⟨rfl, hh⟩
  · exact .inr (.inl ⟨x, rfl, hx⟩)
  · exact .inr (.inr ⟨i, cause, rfl, hi, hdiv, hzero⟩)

/-- Settles O13: of the stops of a running machine only `DivideError` needs no position without a value, and a step takes no
position's value away. -/
theorem specifiedMemoryRunsOn : Obligations.SpecifiedMemoryRunsOn := by
  refine ⟨fun s hh hs => ?_, fun s t x h hx => step_isSome_peek h hx⟩
  rcases step_cases s with ⟨t, h⟩ | ⟨hh', -⟩ | ⟨x, -, hx⟩ | ⟨i, cause, h, -⟩
  · exact .inl ⟨t, h, fun x => step_isSome_peek h (hs x)⟩
  · simp [hh] at hh'
  · have hsome := hs x
    simp [hx] at hsome
  · exact .inr ⟨cause, h⟩

end Sys2Proof.Machine
end

section
/-! PROOFS. What the opcode selects, and which instructions as written there are (spec/30_encoding.md sections 1, 2 and 4). -/

namespace Sys2Proof

open Machine

/-! ### No two rows are written alike -/

/-- A number for what the opcode selects of an operand (R65, R66). -/
def Operand.code : Operand → Nat
  | .byte (.imm _) => 1
  | .byte (.loc (.reg r)) => 2 + r.ctorIdx
  | .byte (.loc .flags) => 6
  | .byte (.loc (.mem (.direct _))) => 7
  | .byte (.loc (.mem (.implicit p))) => 8 + p.ctorIdx
  | .byte (.loc (.mem (.indexed p _))) => 10 + p.ctorIdx
  | .word (.imm _) => 12
  | .word (.loc (.pair p)) => 13 + p.ctorIdx
  | .word (.loc .sp) => 15
  | .word (.loc (.mem (.direct _))) => 16
  | .word (.loc (.mem (.implicit p))) => 17 + p.ctorIdx
  | .word (.loc (.mem (.indexed p _))) => 19 + p.ctorIdx
  | .rel8 _ => 21

/-- The same for an instruction as written, in base 32. -/
def Asm.code (t : Asm) : Nat := 1024 * t.mnemonic.ctorIdx + t.operands.foldl (fun n o => 32 * n + o.code) 0

/-- Whether the numbers of a list are pairwise different and none of them is the place of a one bit of `seen`. -/
def distinctFrom : Nat → List Nat → Bool
  | _, [] => true
  | seen, n :: rest => !seen.testBit n && distinctFrom (seen ||| 1 <<< n) rest

theorem nodup_of_distinctFrom {l : List Nat} {seen : Nat} (h : distinctFrom seen l = true) :
    l.Nodup ∧ ∀ n ∈ l, seen.testBit n = false := by
  induction l generalizing seen with
  | nil => simp
  | cons n rest ih =>
    simp only [distinctFrom, Bool.and_eq_true, Bool.not_eq_true'] at h
    obtain ⟨hn, hdistinct⟩ := h
    obtain ⟨hnodup, hrest⟩ := ih hdistinct
    simp only [Nat.testBit_or, Nat.one_shiftLeft, Nat.testBit_two_pow, Bool.or_eq_false_iff, decide_eq_false_iff_not] at hrest
    exact ⟨List.nodup_cons.2 ⟨fun hmem => (hrest n hmem).2 rfl, hnodup⟩,
      List.forall_mem_cons.2 ⟨hn, fun m hm => (hrest m hm).1⟩⟩

set_option maxRecDepth 10000 in
/-- One pass over the 256 rows, marking each number it meets. -/
theorem code_nodup : (opcodeRows.map fun row => (row.apply 0 0).asm.code).Nodup :=
  (nodup_of_distinctFrom (seen := 0) rfl).1

/-- What the opcode selects gives the opcode. -/
theorem opcodeOf_eq_of_blank {i j : Instr} (h : i.asm.blank = j.asm.blank) : opcodeOf i = opcodeOf j := by
  obtain ⟨row, hrow, -, hblank, -⟩ := instr_row i
  obtain ⟨row', hrow', -, hblank', -⟩ := instr_row j
  have hcode : (opcodeRows.map fun row => (row.apply 0 0).asm.code)[(opcodeOf i).toNat]? =
      (opcodeRows.map fun row => (row.apply 0 0).asm.code)[(opcodeOf j).toNat]? := by
    simp only [List.getElem?_map, hrow, hrow', Option.map_some, hblank, hblank', h]
  have hlt : (opcodeOf i).toNat < (opcodeRows.map fun row => (row.apply 0 0).asm.code).length := by
    rw [List.length_map, length_opcodeRows]
    exact (opcodeOf i).isLt
  exact BitVec.eq_of_toNat_eq ((List.getElem?_inj hlt code_nodup).1 hcode)

/-- The opcode gives what it selects. -/
theorem blank_eq_of_opcodeOf {i j : Instr} (h : opcodeOf i = opcodeOf j) : i.asm.blank = j.asm.blank := by
  obtain ⟨row, hrow, -, hblank, -⟩ := instr_row i
  obtain ⟨row', hrow', -, hblank', -⟩ := instr_row j
  obtain rfl : row = row' := Option.some_inj.1 (hrow.symm.trans (h ▸ hrow'))
  exact hblank.symm.trans hblank'

/-- Settles O3: the first byte is the opcode of the row's place, no two rows are written alike, and every byte has a row. -/
theorem opcodeSelectsTheOperands : Obligations.OpcodeSelectsTheOperands := by
  refine fun cfg => ⟨fun i j => ?_, fun b => ?_⟩
  · rw [head?_encodeWith, head?_encodeWith, Option.some_inj, EmbeddingLike.apply_eq_iff_eq]
    have hblank : i.asm.blank = j.asm.blank ↔
        i.asm.mnemonic = j.asm.mnemonic ∧ i.asm.operands.map shapeOf = j.asm.operands.map shapeOf := Asm.mk.injEq .. ▸ Iff.rfl
    exact ⟨fun h => hblank.1 (blank_eq_of_opcodeOf h), fun h => opcodeOf_eq_of_blank (hblank.2 h)⟩
  · obtain ⟨row, hrow⟩ := opcodeRows_isSome (cfg.opcodeMap.symm b)
    exact ⟨row.apply 0 0, by rw [head?_encodeWith, opcodeOf_apply hrow, Equiv.apply_symm_apply]⟩

/-- No two instructions are written alike: the row is what the opcode selects, the values are those of the operands. -/
theorem asm_injective {i j : Instr} (h : i.asm = j.asm) : i = j := by
  obtain ⟨row, hrow, hi, -⟩ := instr_row i
  obtain ⟨row', hrow', hj, -⟩ := instr_row j
  obtain rfl : row = row' := by
    rw [opcodeOf_eq_of_blank (congrArg Asm.blank h)] at hrow
    exact Option.some_inj.1 (hrow.symm.trans hrow')
  rw [← hi, ← hj, h]

/-! ### What is well formed is some instruction -/

/-- Some instruction is written so. -/
abbrev IsInstr (t : Asm) : Prop := ∃ i : Instr, i.asm = t

theorem isAorB_iff (r : Reg) : r.isAorB = true ↔ r = .A ∨ r = .B := by
  cases r <;> decide

section

variable {m : Mnemonic} {os : List Operand}

/-- The operands of the binary 8-bit operations, one by one (R270). -/
theorem binary8Operands_elim (h : binary8Operands os = true)
    (hA : ∀ v, IsInstr ⟨m, [.byte (.loc (.reg .A)), .byte (.imm v)]⟩)
    (hAB : IsInstr ⟨m, [.byte (.loc (.reg .A)), .byte (.loc (.reg .B))]⟩)
    (hAC : IsInstr ⟨m, [.byte (.loc (.reg .A)), .byte (.loc (.reg .C))]⟩)
    (hAD : IsInstr ⟨m, [.byte (.loc (.reg .A)), .byte (.loc (.reg .D))]⟩)
    (hB : ∀ v, IsInstr ⟨m, [.byte (.loc (.reg .B)), .byte (.imm v)]⟩)
    (hBA : IsInstr ⟨m, [.byte (.loc (.reg .B)), .byte (.loc (.reg .A))]⟩)
    (hBC : IsInstr ⟨m, [.byte (.loc (.reg .B)), .byte (.loc (.reg .C))]⟩)
    (hBD : IsInstr ⟨m, [.byte (.loc (.reg .B)), .byte (.loc (.reg .D))]⟩) : IsInstr ⟨m, os⟩ := by
  revert h
  fun_cases binary8Operands os <;> intro h
  case case1 r v => rcases (isAorB_iff r).1 h with rfl | rfl <;> simp only [hA, hB]
  case case2 r q =>
    obtain ⟨hr, hne⟩ := (Bool.and_eq_true ..).mp h
    rcases (isAorB_iff r).1 hr with rfl | rfl <;> cases q <;> first | assumption | cases hne
  case case3 => cases h

/-- The operands of the 16-bit `ADD` and `SUB`, one by one (R340). -/
theorem binary16Operands_elim (h : binary16Operands os = true)
    (hAB : ∀ x, IsInstr ⟨m, [.word (.loc (.pair .AB)), .word (.imm x)]⟩)
    (hABCD : IsInstr ⟨m, [.word (.loc (.pair .AB)), .word (.loc (.pair .CD))]⟩)
    (hCD : ∀ x, IsInstr ⟨m, [.word (.loc (.pair .CD)), .word (.imm x)]⟩)
    (hCDAB : IsInstr ⟨m, [.word (.loc (.pair .CD)), .word (.loc (.pair .AB))]⟩)
    (hSP : ∀ x, IsInstr ⟨m, [.word (.loc .sp), .word (.imm x)]⟩)
    (hSPAB : IsInstr ⟨m, [.word (.loc .sp), .word (.loc (.pair .AB))]⟩)
    (hSPCD : IsInstr ⟨m, [.word (.loc .sp), .word (.loc (.pair .CD))]⟩) : IsInstr ⟨m, os⟩ := by
  revert h
  fun_cases binary16Operands os <;> intro h
  case case1 p x => cases p <;> simp only [hAB, hCD]
  case case2 x => exact hSP x
  case case3 p => cases p <;> assumption
  case case4 p q => cases p <;> cases q <;> first | assumption | cases h
  case case5 => cases h

/-- The operands of the one-operand operations on `A`, `B` or `AB`, one by one (R222). -/
theorem unaryOperands_elim (h : unaryOperands os = true) (hA : IsInstr ⟨m, [.byte (.loc (.reg .A))]⟩)
    (hB : IsInstr ⟨m, [.byte (.loc (.reg .B))]⟩) (hAB : IsInstr ⟨m, [.word (.loc (.pair .AB))]⟩) : IsInstr ⟨m, os⟩ := by
  revert h
  fun_cases unaryOperands os <;> intro h
  case case1 r => rcases (isAorB_iff r).1 h with rfl | rfl <;> assumption
  case case2 => exact hAB
  case case3 => cases h

/-- The operands of `PUSH` and `POP`, one by one (R191, R192). -/
theorem stackOperands_elim (h : stackOperands os = true)
    (hA : IsInstr ⟨m, [.byte (.loc (.reg .A))]⟩) (hB : IsInstr ⟨m, [.byte (.loc (.reg .B))]⟩)
    (hC : IsInstr ⟨m, [.byte (.loc (.reg .C))]⟩) (hD : IsInstr ⟨m, [.byte (.loc (.reg .D))]⟩)
    (hF : IsInstr ⟨m, [.byte (.loc .flags)]⟩) (hmem : ∀ x, IsInstr ⟨m, [.byte (.loc (.mem (.direct x)))]⟩)
    (hAB : IsInstr ⟨m, [.word (.loc (.pair .AB))]⟩) (hCD : IsInstr ⟨m, [.word (.loc (.pair .CD))]⟩) :
    IsInstr ⟨m, os⟩ := by
  revert h
  fun_cases stackOperands os <;> intro h
  case case1 r => cases r <;> assumption
  case case2 => exact hF
  case case3 x => exact hmem x
  case case4 p => cases p <;> assumption
  case case5 => cases h

/-- The operands of `INC` and `DEC`, one by one (R221). -/
theorem stepOperands_elim (h : stepOperands os = true)
    (hA : IsInstr ⟨m, [.byte (.loc (.reg .A))]⟩) (hB : IsInstr ⟨m, [.byte (.loc (.reg .B))]⟩)
    (hC : IsInstr ⟨m, [.byte (.loc (.reg .C))]⟩) (hD : IsInstr ⟨m, [.byte (.loc (.reg .D))]⟩)
    (hmem : ∀ x, IsInstr ⟨m, [.byte (.loc (.mem (.direct x)))]⟩) (hAB : IsInstr ⟨m, [.word (.loc (.pair .AB))]⟩)
    (hCD : IsInstr ⟨m, [.word (.loc (.pair .CD))]⟩) (hSP : IsInstr ⟨m, [.word (.loc .sp)]⟩) : IsInstr ⟨m, os⟩ := by
  rcases os with _ | ⟨(_ | (r | _ | (x | _ | _))) | (_ | (p | _ | _)) | _, _ | _⟩ <;> try cases h
  · cases r <;> assumption
  · exact hmem x
  · cases p <;> assumption
  · exact hSP

/-- The operands of `JMP` and `CALL`, one by one (R372). -/
theorem targetOperands_elim (h : targetOperands os = true) (himm : ∀ x, IsInstr ⟨m, [.word (.imm x)]⟩)
    (hAB : IsInstr ⟨m, [.word (.loc (.pair .AB))]⟩) (hCD : IsInstr ⟨m, [.word (.loc (.pair .CD))]⟩) :
    IsInstr ⟨m, os⟩ := by
  revert h
  fun_cases targetOperands os <;> intro h
  case case1 x => exact himm x
  case case2 p => cases p <;> assumption
  case case3 => cases h

/-- The operand of `IN` and `OUT`: `A` or `B` (R190). -/
theorem inOperand_elim (h : Asm.wellFormed ⟨.in, os⟩ = true) (hA : IsInstr ⟨m, [.byte (.loc (.reg .A))]⟩)
    (hB : IsInstr ⟨m, [.byte (.loc (.reg .B))]⟩) : IsInstr ⟨m, os⟩ := by
  simp only [Asm.wellFormed] at h
  split at h
  · rcases (isAorB_iff _).1 h with rfl | rfl <;> assumption
  · cases h

/-- The operand of `JR`: an offset, `A` or `B` (R374 to R376). -/
theorem jrOperand_elim (h : Asm.wellFormed ⟨.jr, os⟩ = true) (hrel : ∀ v, IsInstr ⟨m, [.rel8 v]⟩)
    (hA : IsInstr ⟨m, [.byte (.loc (.reg .A))]⟩) (hB : IsInstr ⟨m, [.byte (.loc (.reg .B))]⟩) : IsInstr ⟨m, os⟩ := by
  simp only [Asm.wellFormed] at h
  split at h
  · exact hrel _
  · rcases (isAorB_iff _).1 h with rfl | rfl <;> assumption
  · cases h

/-- The operand of a branch on flags, which is checked for `JS` as for the others: an offset (R373). -/
theorem flagBranchOperand_elim (h : Asm.wellFormed ⟨.js, os⟩ = true) (hrel : ∀ v, IsInstr ⟨m, [.rel8 v]⟩) :
    IsInstr ⟨m, os⟩ := by
  simp only [Asm.wellFormed] at h
  split at h
  · exact hrel _
  · cases h

/-- The operands of `JEQZ`, `JNEQZ` and `LOOP`: any general register and an offset (R393 to R404). -/
theorem loopOperands_elim (h : Asm.wellFormed ⟨.loop, os⟩ = true)
    (hA : ∀ v, IsInstr ⟨m, [.byte (.loc (.reg .A)), .rel8 v]⟩) (hB : ∀ v, IsInstr ⟨m, [.byte (.loc (.reg .B)), .rel8 v]⟩)
    (hC : ∀ v, IsInstr ⟨m, [.byte (.loc (.reg .C)), .rel8 v]⟩) (hD : ∀ v, IsInstr ⟨m, [.byte (.loc (.reg .D)), .rel8 v]⟩) :
    IsInstr ⟨m, os⟩ := by
  simp only [Asm.wellFormed] at h
  split at h
  · next r v => cases r <;> simp only [hA, hB, hC, hD]
  · cases h

end

/-- Every `MOV` that may be written is an instruction (R101, R102, R161). -/
theorem exists_asm_mov {os : List Operand} (h : movOperands os = true) : IsInstr ⟨.mov, os⟩ := by
  revert h
  fun_cases movOperands os <;> intro h
  case case1 r v =>
    cases r
    exacts [⟨.movA_imm8 v, rfl⟩, ⟨.movB_imm8 v, rfl⟩, ⟨.movC_imm8 v, rfl⟩, ⟨.movD_imm8 v, rfl⟩]
  case case2 r q =>
    cases r <;> cases q <;> try cases h
    exacts [⟨.movA_B, rfl⟩, ⟨.movA_C, rfl⟩, ⟨.movA_D, rfl⟩, ⟨.movB_A, rfl⟩, ⟨.movB_C, rfl⟩, ⟨.movB_D, rfl⟩, ⟨.movC_A, rfl⟩,
      ⟨.movC_B, rfl⟩, ⟨.movC_D, rfl⟩, ⟨.movD_A, rfl⟩, ⟨.movD_B, rfl⟩, ⟨.movD_C, rfl⟩]
  case case3 r m =>
    rcases m with x | (_ | _) | ⟨_ | _, x⟩ <;> cases r
    exacts [⟨.movA_atAddr x, rfl⟩, ⟨.movB_atAddr x, rfl⟩, ⟨.movC_atAddr x, rfl⟩, ⟨.movD_atAddr x, rfl⟩, ⟨.movA_atAB, rfl⟩,
      ⟨.movB_atAB, rfl⟩, ⟨.movC_atAB, rfl⟩, ⟨.movD_atAB, rfl⟩, ⟨.movA_atCD, rfl⟩, ⟨.movB_atCD, rfl⟩, ⟨.movC_atCD, rfl⟩,
      ⟨.movD_atCD, rfl⟩, ⟨.movA_atABdisp x, rfl⟩, ⟨.movB_atABdisp x, rfl⟩, ⟨.movC_atABdisp x, rfl⟩, ⟨.movD_atABdisp x, rfl⟩,
      ⟨.movA_atCDdisp x, rfl⟩, ⟨.movB_atCDdisp x, rfl⟩, ⟨.movC_atCDdisp x, rfl⟩, ⟨.movD_atCDdisp x, rfl⟩]
  case case4 m r =>
    rcases m with x | (_ | _) | ⟨_ | _, x⟩ <;> cases r <;> try cases h
    exacts [⟨.movAtAddr_A x, rfl⟩, ⟨.movAtAddr_B x, rfl⟩, ⟨.movAtAddr_C x, rfl⟩, ⟨.movAtAddr_D x, rfl⟩, ⟨.movAtAB_C, rfl⟩,
      ⟨.movAtAB_D, rfl⟩, ⟨.movAtCD_A, rfl⟩, ⟨.movAtCD_B, rfl⟩, ⟨.movAtABdisp_C x, rfl⟩, ⟨.movAtABdisp_D x, rfl⟩,
      ⟨.movAtCDdisp_A x, rfl⟩, ⟨.movAtCDdisp_B x, rfl⟩]
  case case5 x v => exact ⟨.movAtAddr_imm8 x v, rfl⟩
  case case6 p x =>
    cases p
    exacts [⟨.movAB_imm16 x, rfl⟩, ⟨.movCD_imm16 x, rfl⟩]
  case case7 p m =>
    rcases m with x | (_ | _) | ⟨_ | _, x⟩ <;> cases p
    exacts [⟨.movAB_atAddr x, rfl⟩, ⟨.movCD_atAddr x, rfl⟩, ⟨.movAB_atAB, rfl⟩, ⟨.movCD_atAB, rfl⟩, ⟨.movAB_atCD, rfl⟩,
      ⟨.movCD_atCD, rfl⟩, ⟨.movAB_atABdisp x, rfl⟩, ⟨.movCD_atABdisp x, rfl⟩, ⟨.movAB_atCDdisp x, rfl⟩,
      ⟨.movCD_atCDdisp x, rfl⟩]
  case case8 p q =>
    cases p <;> cases q <;> try cases h
    exacts [⟨.movAB_CD, rfl⟩, ⟨.movCD_AB, rfl⟩]
  case case9 p =>
    cases p
    exacts [⟨.movAB_SP, rfl⟩, ⟨.movCD_SP, rfl⟩]
  case case10 x => exact ⟨.movSP_imm16 x, rfl⟩
  case case11 x => exact ⟨.movSP_atAddr x, rfl⟩
  case case12 p =>
    cases p
    exacts [⟨.movSP_AB, rfl⟩, ⟨.movSP_CD, rfl⟩]
  case case13 m p =>
    rcases m with x | (_ | _) | ⟨_ | _, x⟩ <;> cases p <;> try cases h
    exacts [⟨.movAtAddr_AB x, rfl⟩, ⟨.movAtAddr_CD x, rfl⟩, ⟨.movAtAB_CD, rfl⟩, ⟨.movAtCD_AB, rfl⟩, ⟨.movAtABdisp_CD x, rfl⟩,
      ⟨.movAtCDdisp_AB x, rfl⟩]
  case case14 x => exact ⟨.movAtAddr_SP x, rfl⟩
  case case15 => cases h

/-- Every instruction that may be written is an instruction of the table. -/
theorem exists_asm {m : Mnemonic} {os : List Operand} (h : Asm.wellFormed ⟨m, os⟩ = true) : IsInstr ⟨m, os⟩ := by
  cases m with
  | mov => exact exists_asm_mov h
  | push =>
    exact stackOperands_elim h ⟨.pushA, rfl⟩ ⟨.pushB, rfl⟩ ⟨.pushC, rfl⟩ ⟨.pushD, rfl⟩ ⟨.pushF, rfl⟩
      (fun x => ⟨.pushAtAddr x, rfl⟩) ⟨.pushAB, rfl⟩ ⟨.pushCD, rfl⟩
  | pop =>
    exact stackOperands_elim h ⟨.popA, rfl⟩ ⟨.popB, rfl⟩ ⟨.popC, rfl⟩ ⟨.popD, rfl⟩ ⟨.popF, rfl⟩ (fun x => ⟨.popAtAddr x, rfl⟩)
      ⟨.popAB, rfl⟩ ⟨.popCD, rfl⟩
  | dec =>
    exact stepOperands_elim h ⟨.decA, rfl⟩ ⟨.decB, rfl⟩ ⟨.decC, rfl⟩ ⟨.decD, rfl⟩ (fun x => ⟨.decAtAddr x, rfl⟩) ⟨.decAB, rfl⟩
      ⟨.decCD, rfl⟩ ⟨.decSP, rfl⟩
  | inc =>
    exact stepOperands_elim h ⟨.incA, rfl⟩ ⟨.incB, rfl⟩ ⟨.incC, rfl⟩ ⟨.incD, rfl⟩ (fun x => ⟨.incAtAddr x, rfl⟩) ⟨.incAB, rfl⟩
      ⟨.incCD, rfl⟩ ⟨.incSP, rfl⟩
  | not =>
    exact unaryOperands_elim h ⟨.notA, rfl⟩ ⟨.notB, rfl⟩ ⟨.notAB, rfl⟩
  | neg =>
    exact unaryOperands_elim h ⟨.negA, rfl⟩ ⟨.negB, rfl⟩ ⟨.negAB, rfl⟩
  | shl =>
    exact unaryOperands_elim h ⟨.shlA, rfl⟩ ⟨.shlB, rfl⟩ ⟨.shlAB, rfl⟩
  | shr =>
    exact unaryOperands_elim h ⟨.shrA, rfl⟩ ⟨.shrB, rfl⟩ ⟨.shrAB, rfl⟩
  | rl =>
    exact unaryOperands_elim h ⟨.rlA, rfl⟩ ⟨.rlB, rfl⟩ ⟨.rlAB, rfl⟩
  | rr =>
    exact unaryOperands_elim h ⟨.rrA, rfl⟩ ⟨.rrB, rfl⟩ ⟨.rrAB, rfl⟩
  | sbb =>
    exact binary8Operands_elim h (fun v => ⟨.sbbA_imm8 v, rfl⟩) ⟨.sbbA_B, rfl⟩ ⟨.sbbA_C, rfl⟩ ⟨.sbbA_D, rfl⟩
      (fun v => ⟨.sbbB_imm8 v, rfl⟩) ⟨.sbbB_A, rfl⟩ ⟨.sbbB_C, rfl⟩ ⟨.sbbB_D, rfl⟩
  | adc =>
    exact binary8Operands_elim h (fun v => ⟨.adcA_imm8 v, rfl⟩) ⟨.adcA_B, rfl⟩ ⟨.adcA_C, rfl⟩ ⟨.adcA_D, rfl⟩
      (fun v => ⟨.adcB_imm8 v, rfl⟩) ⟨.adcB_A, rfl⟩ ⟨.adcB_C, rfl⟩ ⟨.adcB_D, rfl⟩
  | cmp =>
    exact binary8Operands_elim h (fun v => ⟨.cmpA_imm8 v, rfl⟩) ⟨.cmpA_B, rfl⟩ ⟨.cmpA_C, rfl⟩ ⟨.cmpA_D, rfl⟩
      (fun v => ⟨.cmpB_imm8 v, rfl⟩) ⟨.cmpB_A, rfl⟩ ⟨.cmpB_C, rfl⟩ ⟨.cmpB_D, rfl⟩
  | and =>
    exact binary8Operands_elim h (fun v => ⟨.andA_imm8 v, rfl⟩) ⟨.andA_B, rfl⟩ ⟨.andA_C, rfl⟩ ⟨.andA_D, rfl⟩
      (fun v => ⟨.andB_imm8 v, rfl⟩) ⟨.andB_A, rfl⟩ ⟨.andB_C, rfl⟩ ⟨.andB_D, rfl⟩
  | xor =>
    exact binary8Operands_elim h (fun v => ⟨.xorA_imm8 v, rfl⟩) ⟨.xorA_B, rfl⟩ ⟨.xorA_C, rfl⟩ ⟨.xorA_D, rfl⟩
      (fun v => ⟨.xorB_imm8 v, rfl⟩) ⟨.xorB_A, rfl⟩ ⟨.xorB_C, rfl⟩ ⟨.xorB_D, rfl⟩
  | or =>
    exact binary8Operands_elim h (fun v => ⟨.orA_imm8 v, rfl⟩) ⟨.orA_B, rfl⟩ ⟨.orA_C, rfl⟩ ⟨.orA_D, rfl⟩
      (fun v => ⟨.orB_imm8 v, rfl⟩) ⟨.orB_A, rfl⟩ ⟨.orB_C, rfl⟩ ⟨.orB_D, rfl⟩
  | add =>
    rcases Bool.or_eq_true_iff.1 h with h | h
    · exact binary8Operands_elim h (fun v => ⟨.addA_imm8 v, rfl⟩) ⟨.addA_B, rfl⟩ ⟨.addA_C, rfl⟩ ⟨.addA_D, rfl⟩
        (fun v => ⟨.addB_imm8 v, rfl⟩) ⟨.addB_A, rfl⟩ ⟨.addB_C, rfl⟩ ⟨.addB_D, rfl⟩
    · exact binary16Operands_elim h (fun x => ⟨.addAB_imm16 x, rfl⟩) ⟨.addAB_CD, rfl⟩ (fun x => ⟨.addCD_imm16 x, rfl⟩)
        ⟨.addCD_AB, rfl⟩ (fun x => ⟨.addSP_imm16 x, rfl⟩) ⟨.addSP_AB, rfl⟩ ⟨.addSP_CD, rfl⟩
  | sub =>
    rcases Bool.or_eq_true_iff.1 h with h | h
    · exact binary8Operands_elim h (fun v => ⟨.subA_imm8 v, rfl⟩) ⟨.subA_B, rfl⟩ ⟨.subA_C, rfl⟩ ⟨.subA_D, rfl⟩
        (fun v => ⟨.subB_imm8 v, rfl⟩) ⟨.subB_A, rfl⟩ ⟨.subB_C, rfl⟩ ⟨.subB_D, rfl⟩
    · exact binary16Operands_elim h (fun x => ⟨.subAB_imm16 x, rfl⟩) ⟨.subAB_CD, rfl⟩ (fun x => ⟨.subCD_imm16 x, rfl⟩)
        ⟨.subCD_AB, rfl⟩ (fun x => ⟨.subSP_imm16 x, rfl⟩) ⟨.subSP_AB, rfl⟩ ⟨.subSP_CD, rfl⟩
  | jmp =>
    exact targetOperands_elim h (fun x => ⟨.jmp_imm16 x, rfl⟩) ⟨.jmpAB, rfl⟩ ⟨.jmpCD, rfl⟩
  | call =>
    exact targetOperands_elim h (fun x => ⟨.call_imm16 x, rfl⟩) ⟨.callAB, rfl⟩ ⟨.callCD, rfl⟩
  | mul => exact ⟨.mulA_D, congrArg _ (beq_iff_eq.1 h).symm⟩
  | imul => exact ⟨.imulA_D, congrArg _ (beq_iff_eq.1 h).symm⟩
  | div => exact ⟨.divAB_D, congrArg _ (beq_iff_eq.1 h).symm⟩
  | idiv => exact ⟨.idivAB_D, congrArg _ (beq_iff_eq.1 h).symm⟩
  | exp => exact ⟨.expA_B, congrArg _ (beq_iff_eq.1 h).symm⟩
  | ret => exact ⟨.ret, congrArg _ (beq_iff_eq.1 h).symm⟩
  | clc => exact ⟨.clc, congrArg _ (beq_iff_eq.1 h).symm⟩
  | cmc => exact ⟨.cmc, congrArg _ (beq_iff_eq.1 h).symm⟩
  | stc => exact ⟨.stc, congrArg _ (beq_iff_eq.1 h).symm⟩
  | halt => exact ⟨.halt, congrArg _ (beq_iff_eq.1 h).symm⟩
  | nop => exact ⟨.nop, congrArg _ (beq_iff_eq.1 h).symm⟩
  | out => exact inOperand_elim h ⟨.outA, rfl⟩ ⟨.outB, rfl⟩
  | jr => exact jrOperand_elim h (fun v => ⟨.jr_rel8 v, rfl⟩) ⟨.jrA, rfl⟩ ⟨.jrB, rfl⟩
  | js => exact flagBranchOperand_elim h fun v => ⟨.js_rel8 v, rfl⟩
  | jp => exact flagBranchOperand_elim h fun v => ⟨.jp_rel8 v, rfl⟩
  | jo => exact flagBranchOperand_elim h fun v => ⟨.jo_rel8 v, rfl⟩
  | jc => exact flagBranchOperand_elim h fun v => ⟨.jc_rel8 v, rfl⟩
  | jz => exact flagBranchOperand_elim h fun v => ⟨.jz_rel8 v, rfl⟩
  | jns => exact flagBranchOperand_elim h fun v => ⟨.jns_rel8 v, rfl⟩
  | jnp => exact flagBranchOperand_elim h fun v => ⟨.jnp_rel8 v, rfl⟩
  | jno => exact flagBranchOperand_elim h fun v => ⟨.jno_rel8 v, rfl⟩
  | jnc => exact flagBranchOperand_elim h fun v => ⟨.jnc_rel8 v, rfl⟩
  | jnz => exact flagBranchOperand_elim h fun v => ⟨.jnz_rel8 v, rfl⟩
  | jzc => exact flagBranchOperand_elim h fun v => ⟨.jzc_rel8 v, rfl⟩
  | jso => exact flagBranchOperand_elim h fun v => ⟨.jso_rel8 v, rfl⟩
  | jsonz => exact flagBranchOperand_elim h fun v => ⟨.jsonz_rel8 v, rfl⟩
  | jnzc => exact flagBranchOperand_elim h fun v => ⟨.jnzc_rel8 v, rfl⟩
  | jnso => exact flagBranchOperand_elim h fun v => ⟨.jnso_rel8 v, rfl⟩
  | jznso => exact flagBranchOperand_elim h fun v => ⟨.jznso_rel8 v, rfl⟩
  | jeqz =>
    exact loopOperands_elim h (fun v => ⟨.jeqzA_rel8 v, rfl⟩) (fun v => ⟨.jeqzB_rel8 v, rfl⟩) (fun v => ⟨.jeqzC_rel8 v, rfl⟩)
      (fun v => ⟨.jeqzD_rel8 v, rfl⟩)
  | jneqz =>
    exact loopOperands_elim h (fun v => ⟨.jneqzA_rel8 v, rfl⟩) (fun v => ⟨.jneqzB_rel8 v, rfl⟩) (fun v => ⟨.jneqzC_rel8 v, rfl⟩)
      (fun v => ⟨.jneqzD_rel8 v, rfl⟩)
  | loop =>
    exact loopOperands_elim h (fun v => ⟨.loopA_rel8 v, rfl⟩) (fun v => ⟨.loopB_rel8 v, rfl⟩) (fun v => ⟨.loopC_rel8 v, rfl⟩)
      (fun v => ⟨.loopD_rel8 v, rfl⟩)
  -- The mnemonic left is `IN`: its name is a keyword, which cannot name a case.
  | _ => exact inOperand_elim h ⟨.inA, rfl⟩ ⟨.inB, rfl⟩

/-- Settles O6: each operand list that is allowed is that of an instruction, each instruction keeps the rules, and no two are written
alike. -/
theorem operandListsAreExact : Obligations.OperandListsAreExact := by
  refine ⟨fun t => ⟨fun h => exists_asm h, ?_⟩, fun i j h => asm_injective h⟩
  rintro ⟨i, rfl⟩
  cases i <;> rfl

end Sys2Proof
end

section
/-! PROOFS. The lengths of the instructions, and the step as the run of the instruction that was decoded (spec/10_state.md section 3,
spec/30_encoding.md sections 1 and 4). -/

namespace Sys2Proof

open Machine

theorem lengthOfOpcode_of_row {cfg : Config} {b : Byte} {row : Row} (h : rowOf cfg b = some row) :
    lengthOfOpcode cfg b = some (row.length cfg) := by
  simp only [lengthOfOpcode, h, Option.map_some]

set_option maxRecDepth 10000 in
/-- How many of the opcodes begin an instruction of each length (R62). -/
theorem lengthOfOpcode_counts : ∀ p ∈ [(1, 159), (2, 49), (3, 47), (4, 1)],
    ((List.range 256).filter fun n => lengthOfOpcode .spec (BitVec.ofNat 8 n) == some p.1).length = p.2 := by
  simp only [List.forall_mem_cons, List.not_mem_nil, false_imp_iff, implies_true, and_true]
  exact ⟨rfl, rfl, rfl, rfl⟩

/-- Settles O4: the counts are counted, and an encoding is its opcode and the operand bytes of the opcode's row. -/
theorem instructionLengths : Obligations.InstructionLengths := by
  refine ⟨lengthOfOpcode_counts, fun i => ?_⟩
  obtain ⟨row, hrow, hi, -⟩ := instr_row i
  have henc : encode i = opcodeOf i :: row.operandBytes .spec i.asm.wordValue i.asm.byteValue := encodeWith_row .spec hrow hi
  rw [henc, List.head?_cons, Option.bind_some, List.length_cons, Row.length_operandBytes]
  exact lengthOfOpcode_of_row hrow

/-- Settles O5: each opcode finds its row, and the row reads the bytes written. -/
theorem sampleWordsDecode : Obligations.SampleWordsDecode :=
  ⟨rfl, rfl, rfl, rfl, rfl, rfl, rfl, rfl, rfl⟩

/-- Settles O59: the bytes that decode begin with the encoding, so that the fetch reads it from memory, no byte more, and decodes it
to the same instruction. -/
theorem stepUnderAnyConfiguration : Obligations.StepUnderAnyConfiguration := by
  intro cfg s bs i hh hdecode hmem
  obtain ⟨b, rest, rfl⟩ := List.exists_cons_of_ne_nil (l := bs) (by rintro rfl; cases hdecode)
  obtain ⟨row, hrow, henc, hle⟩ := encodeWith_of_decodeWith hdecode
  have hlen : (encodeWith cfg i).length = row.length cfg := by
    rw [henc, List.length_take, List.length_cons, Nat.min_eq_left hle]
  have hbytes : ∀ k < (encodeWith cfg i).length, cfg.memMap (s.ip + BitVec.ofNat 16 k) = true ∧
      s.peek (s.ip + BitVec.ofNat 16 k) = (encodeWith cfg i)[k]? := by
    intro k hk
    obtain ⟨hmap, hpeek⟩ := hmem k hk
    rw [hpeek, henc, List.getElem?_take_of_lt (hlen ▸ hk)]
    exact ⟨hmap, rfl⟩
  have hread := readBytes_of_peek hbytes
  have hopcode : readByte cfg s.ip s = .next b := by
    obtain ⟨n, hn⟩ := Nat.exists_eq_add_of_lt (rowLength_pos cfg row)
    refine (readBytes_eq_next hread).2 b (rest.take n) ?_
    rw [henc, hn, Nat.zero_add, List.take_succ_cons]
  have hdecode' : decodeWith cfg (encodeWith cfg i) = .ok i := by
    obtain ⟨n, hn⟩ := Nat.exists_eq_add_of_lt (rowLength_pos cfg row)
    rw [decodeWith_cons hrow] at hdecode
    rw [henc, hn, Nat.zero_add, List.take_succ_cons, decodeWith_cons hrow, Row.assemble_take cfg row rest n (by omega), hdecode]
  exact cycle_of_fetch hh (fetch_of_bytes hopcode hrow (hlen ▸ hread) hdecode')

/-- Settles O7: the machine of `step` is the machine of any configuration at the spec's, whose `MEM_MAP` holds every address. -/
theorem stepRunsDecodedInstruction : Obligations.StepRunsDecodedInstruction := by
  intro s bs i hh hdecode hmem
  rw [← stepWith_spec, ← execWith_spec]
  exact stepUnderAnyConfiguration .spec s bs i hh hdecode fun k hk => ⟨rfl, hmem k hk⟩

/-- No meaning reads the opcode map. -/
theorem execWith_opcodeMap (cfg : Config) (m : OpcodeMap) (i : Instr) (s : State) :
    execWith { cfg with opcodeMap := m } i s = execWith cfg i s := by
  cases i <;> rfl

/-- Settles O60: the encoding under the map decodes to the instruction, the step runs it, and its meaning does not read the map. -/
theorem opcodeMapOnlyRenames : Obligations.OpcodeMapOnlyRenames := by
  intro cfg m i s hh henc hmem
  have hdecode := decodeEncodeRoundTrip.1 { cfg with opcodeMap := m } i [] henc
  rw [List.append_nil] at hdecode
  rw [stepUnderAnyConfiguration _ s _ i hh hdecode hmem, execWith_opcodeMap]

end Sys2Proof
end

section
/-! PROOFS. What an instruction leaves alone in the peripheral (R32, R47), in `SP` (R12), and, being a branch, elsewhere (R370). -/

namespace Sys2Proof.Machine

/-! ### The peripheral and `SP` through a location written -/

theorem writeLoc8_frame {l : Loc8} {v : Byte} {s t : State} (h : writeLoc8 .spec l v s = .next t) :
    t.sp = s.sp ∧ t.input = s.input ∧ t.output = s.output ∧ t.inputDraws = s.inputDraws := by
  obtain ⟨u, hu, -, hsp, hinput, houtput, -, -, hdraws⟩ := writeLoc8_next l v s
  cases h.symm.trans hu
  exact ⟨hsp, hinput, houtput, hdraws⟩

theorem writeLoc16_frame {l : Loc16} {v : Word} {s t : State} (h : writeLoc16 .spec l v s = .next t) :
    t.input = s.input ∧ t.output = s.output ∧ t.inputDraws = s.inputDraws := by
  obtain ⟨u, hu, -, -, hinput, houtput, -, -, hdraws⟩ := writeLoc16_next l v s
  cases h.symm.trans hu
  exact ⟨hinput, houtput, hdraws⟩

theorem writeLoc16_sp {l : Loc16} {v : Word} {s t : State} (h : writeLoc16 .spec l v s = .next t) (hl : l ≠ .sp) :
    t.sp = s.sp := by
  cases l with
  | pair p => cases h; simp
  | sp => exact absurd rfl hl
  | mem m => cases h; rfl

/-! ### The peripheral -/

/-- What an operation can do to the peripheral: `IN` moves the input stream, `OUT` adds a byte to the trace, no other does anything. -/
theorem SharedOp.peripheral {a : Asm} {r : Res State} {s t : State} (h : SharedOp s a r) (ht : r = .next t) :
    (a.mnemonic = .in ∧ t.output = s.output) ∨
    (a.mnemonic = .out ∧ t.input = s.input ∧ t.inputDraws = s.inputDraws ∧ ∃ v, t.output = s.output ++ [v]) ∨
    (t.input = s.input ∧ t.inputDraws = s.inputDraws ∧ t.output = s.output) := by
  cases h with
  | input => obtain ⟨v, rest, n, rfl⟩ := input_eq_next ht; exact .inl ⟨rfl, by simp⟩
  | output => cases (output_eq ..).symm.trans ht; exact .inr (.inl ⟨rfl, rfl, rfl, _, rfl⟩)
  | mov8 hd =>
    obtain ⟨v, u, -, hu, rfl⟩ := mov8_eq_next.1 ht
    obtain ⟨-, hinput, houtput, hdraws⟩ := writeLoc8_frame hu
    exact .inr (.inr ⟨hinput, hdraws, houtput⟩)
  | mov16 =>
    obtain ⟨v, u, -, hu, rfl⟩ := mov16_eq_next.1 ht
    obtain ⟨hinput, houtput, hdraws⟩ := writeLoc16_frame hu
    exact .inr (.inr ⟨hinput, hdraws, houtput⟩)
  | pop8 =>
    obtain ⟨v, u, -, hu, rfl⟩ := pop8_eq_next.1 ht
    obtain ⟨-, hinput, houtput, hdraws⟩ := writeLoc8_frame hu
    exact .inr (.inr ⟨hinput, hdraws, houtput⟩)
  | unary8Reg | unary8Mem =>
    obtain ⟨v, u, -, hu, rfl⟩ := unary8_eq_next.1 ht
    obtain ⟨-, hinput, houtput, hdraws⟩ := writeLoc8_frame hu
    exact .inr (.inr ⟨hinput, hdraws, houtput⟩)
  | unary16Pair | unary16Sp =>
    obtain ⟨v, u, -, hu, rfl⟩ := unary16_eq_next.1 ht
    obtain ⟨hinput, houtput, hdraws⟩ := writeLoc16_frame hu
    exact .inr (.inr ⟨hinput, hdraws, houtput⟩)
  | binary16Pair | binary16Sp =>
    obtain ⟨a, b, u, -, -, hu, rfl⟩ := binary16_eq_next.1 ht
    obtain ⟨hinput, houtput, hdraws⟩ := writeLoc16_frame hu
    exact .inr (.inr ⟨hinput, hdraws, houtput⟩)
  | push8 => obtain ⟨v, -, rfl⟩ := push8_eq_next.1 ht; simp
  | push16 => cases (push16_eq ..).symm.trans ht; simp
  | pop16 => obtain ⟨v, -, rfl⟩ := pop16_eq_next.1 ht; simp
  | compare8 => obtain ⟨b, -, rfl⟩ := compare8_eq_next.1 ht; simp
  | mul | imul | expandSign | jumpTo | setCarry | nop | halt => cases ht; exact .inr (.inr ⟨rfl, rfl, rfl⟩)
  | div | idiv => obtain ⟨q, r, rfl⟩ := divide_eq_next ht; exact .inr (.inr ⟨rfl, rfl, rfl⟩)
  | binary8 => obtain ⟨b, -, rfl⟩ := binary8_eq_next.1 ht; simp
  | branchRel => cases (branchRel_eq ..).symm.trans ht; simp
  | loopRel => cases (loopRel_eq ..).symm.trans ht; simp
  | callTo => cases (callTo_eq ..).symm.trans ht; simp
  | returnToTop => obtain ⟨v, -, rfl⟩ := returnToTop_eq_next.1 ht; simp

/-- Settles O16: of the three things an instruction can do to the peripheral, one is `IN`'s and one is `OUT`'s. -/
theorem peripheralFrame : Obligations.PeripheralFrame := by
  intro i s t h
  rcases (exec_sharedOp i s).peripheral h with
    ⟨hin, houtput⟩ | ⟨hout, hinput, hdraws, v, houtput⟩ | ⟨hinput, hdraws, houtput⟩
  · simp [hin, houtput]
  · simp [hout, hinput, hdraws, houtput]
  · simp [hinput, hdraws, houtput]

/-! ### `SP` -/

/-- Settles O17: an operation writes `SP` by moving the stack or by having it as its destination, and `writesSp` tells of both. -/
theorem stackPointerWriters : Obligations.StackPointerWriters := by
  intro i s t h hw
  have hop := exec_sharedOp i s
  unfold writesSp at hw
  generalize i.asm = a at hop hw
  generalize exec i s = r at hop h
  cases hop with
  | mov8 hd => obtain ⟨v, u, -, hu, rfl⟩ := mov8_eq_next.1 h; exact (writeLoc8_frame hu).1
  | @mov16 dst src len =>
    obtain ⟨v, u, -, hu, rfl⟩ := mov16_eq_next.1 h
    have hdst : dst ≠ .sp := by rintro rfl; cases hw
    exact (writeLoc16_sp hu hdst : u.sp = s.sp)
  | unary16Sp hm | binary16Sp hm => rcases hm with rfl | rfl <;> cases hw
  | push8 | push16 | pop8 | pop16 | callTo | returnToTop => cases hw
  | unary8Reg | unary8Mem => obtain ⟨v, u, -, hu, rfl⟩ := unary8_eq_next.1 h; exact (writeLoc8_frame hu).1
  | unary16Pair => cases (unary16_pair ..).symm.trans h; simp
  | input => obtain ⟨v, rest, n, rfl⟩ := input_eq_next h; simp
  | output => cases (output_eq ..).symm.trans h; rfl
  | compare8 => obtain ⟨b, -, rfl⟩ := compare8_eq_next.1 h; rfl
  | mul | imul | expandSign | jumpTo | setCarry | nop | halt => cases h; rfl
  | div | idiv => obtain ⟨q, r, rfl⟩ := divide_eq_next h; rfl
  | binary8 => obtain ⟨b, -, rfl⟩ := binary8_eq_next.1 h; simp
  | binary16Pair =>
    obtain ⟨a, b, u, -, -, hu, rfl⟩ := binary16_eq_next.1 h
    exact (writeLoc16_sp hu Loc16.noConfusion : u.sp = _)
  | branchRel => cases (branchRel_eq ..).symm.trans h; rfl
  | loopRel => cases (loopRel_eq ..).symm.trans h; simp

/-! ### The branches -/

/-- What a branch can do: nothing but move `IP`, or count a register down, or store two bytes below the top of the stack, or drop two
from it, each with a new `IP`. -/
theorem SharedOp.branch_cases {a : Asm} {r : Res State} {s t : State} (h : SharedOp s a r) (ht : r = .next t)
    (hb : a.mnemonic.family = .branch) :
    (∃ ip, t = s.setIp ip) ∨
    (∃ ip q v, a.mnemonic = .loop ∧ .byte (.loc (.reg q)) ∈ a.operands ∧ t = (s.setReg q v).setIp ip) ∨
    (∃ ip hi lo, a.mnemonic = .call ∧ t = { s with
      sp := s.sp - 2, ip := ip, mem := Memory.put (Memory.put s.mem (s.sp - 2).toNat hi) (s.sp - 2 + 1).toNat lo }) ∨
    ∃ ip, a.mnemonic = .ret ∧ t = { s with sp := s.sp + 2, ip := ip } := by
  cases h with
  | branchRel => cases (branchRel_eq ..).symm.trans ht; exact .inl ⟨_, rfl⟩
  | jumpTo => cases ht; exact .inl ⟨_, rfl⟩
  | loopRel => cases (loopRel_eq ..).symm.trans ht; exact .inr (.inl ⟨_, _, _, rfl, by simp, rfl⟩)
  | callTo => cases (callTo_eq ..).symm.trans ht; exact .inr (.inr (.inl ⟨_, _, _, rfl, rfl⟩))
  | returnToTop => obtain ⟨v, -, rfl⟩ := returnToTop_eq_next.1 ht; exact .inr (.inr (.inr ⟨_, rfl, rfl⟩))
  | unary8Reg hm | unary16Pair hm | binary8 hm | binary16Pair hm => cases hm.symm.trans hb
  | unary8Mem hm | unary16Sp hm | binary16Sp hm => rcases hm with rfl | rfl <;> cases hb
  | setCarry hm => cases (family_of_mem_carry hm).symm.trans hb
  | mov8 | mov16 | input | output | push8 | pop8 | push16 | pop16 | compare8 | mul | imul | div | idiv | expandSign | nop | halt =>
    cases hb

/-- Settles O55: of the four things a branch can do, one is `LOOP`'s, one `CALL`'s, one `RET`'s, and the last moves `IP` alone. -/
theorem branchFrame : Obligations.BranchFrame := by
  intro i s t hb h
  rcases (exec_sharedOp i s).branch_cases h hb with
    ⟨ip, rfl⟩ | ⟨ip, q, v, hm, hq, rfl⟩ | ⟨ip, hi, lo, hm, rfl⟩ | ⟨ip, hm, rfl⟩
  · refine ⟨rfl, fun r hr => ?_, fun hsp => absurd rfl hsp, fun a ha => absurd rfl ha⟩
    exact absurd (State.setIp_reg ..) hr
  · refine ⟨by cases q <;> rfl, fun r hr => ?_, fun hsp => absurd (by simp) hsp, fun a ha => absurd (by simp) ha⟩
    rw [State.setIp_reg, State.reg_setReg] at hr
    obtain rfl : r = q := by
      by_contra hne
      exact hr (if_neg hne)
    exact ⟨hm, hq⟩
  · refine ⟨rfl, fun r hr => absurd (by cases r <;> rfl) hr, fun _ => .inl hm, fun a ha => ⟨hm, ?_⟩⟩
    have hpeek := State.peek_put_put s (s.sp - 2) (s.sp - 2 + 1) a hi lo
    by_contra hne
    obtain ⟨hne1, hne2⟩ := not_or.1 hne
    exact ha (hpeek.trans ((if_neg hne2).trans (if_neg hne1)))
  · exact ⟨rfl, fun r hr => absurd (by cases r <;> rfl) hr, fun _ => .inr hm, fun a ha => absurd rfl ha⟩

end Sys2Proof.Machine
end

section
/-! PROOFS. The state after reset (spec/10_state.md R34, spec/70_reset_and_hazards.md R520), the registers and pairs (R10, R11), the
addressing forms (R67 to R69), memory (R40, R44) and the stack (R51 to R54). -/

namespace Sys2Proof.Machine

/-- Settles O10: reset takes memory from `RESET_STATE`, which under the spec lists no position, and a load replaces it. -/
theorem resetMeetsInvariant : Obligations.ResetMeetsInvariant :=
  ⟨Memory.nil_wf, fun _ _ => ⟨fun h => h, fun h => h⟩⟩

/-- Settles O11: each field of the state after reset is the one the configuration gives, and an unlisted position holds no value. -/
theorem resetValues : Obligations.ResetValues :=
  ⟨rfl, rfl, fun _ => rfl, fun _ => ⟨rfl, rfl, rfl, rfl, fun _ => rfl⟩⟩

theorem State.pair_setPair (s : State) (p q : Pair) (v : Word) :
    (s.setPair p v).pair q = if q = p then v else s.pair q := by
  cases p <;> cases q <;> simp [State.setPair_AB, State.setPair_CD, State.pair_AB, State.pair_CD]

/-- Settles O18: a pair is its first register 256-fold and its second, and its two registers are no other pair's. -/
theorem registersAndPairs : Obligations.RegistersAndPairs :=
  ⟨State.reg_setReg, fun s => ⟨append_toNat s.a s.b, append_toNat s.c s.d⟩, State.pair_setPair⟩

/-- The address of each form, in the terms of the state (R67 to R69). -/
theorem effectiveAddress_direct (x : Word) (s : State) : effectiveAddress .spec (.direct x) s = x := rfl

theorem effectiveAddress_implicit (p : Pair) (s : State) : effectiveAddress .spec (.implicit p) s = s.pair p := by
  cases p <;> rfl

theorem effectiveAddress_indexed (p : Pair) (x : Word) (s : State) :
    effectiveAddress .spec (.indexed p x) s = s.pair p + x := by
  cases p <;> rfl

/-- Settles O19: the sum of the pair and the displacement wraps as words do. -/
theorem effectiveAddresses : Obligations.EffectiveAddresses := fun s x =>
  ⟨effectiveAddress_direct x s, fun p => effectiveAddress_implicit p s, fun p => by
    rw [effectiveAddress_indexed, BitVec.toNat_add]⟩

/-- No position is its own successor. -/
theorem word_ne_succ (a : Word) : a ≠ a + 1 := by bv_omega

/-- Reading anywhere after a byte was written. -/
theorem peek_of_byteWritten {s t : State} {a x : Word} {v : Byte} (h : t.mem = Memory.put s.mem a.toNat v) :
    t.peek x = if x = a then some v else s.peek x := by
  rw [State.peek, h, Memory.get?_put_word, State.peek]

/-- Reading anywhere after a 16-bit value was written: the high byte, the low byte at the next position, elsewhere as before. -/
theorem peek_of_wordWritten {s t : State} {a x v : Word}
    (h : t.mem = Memory.put (Memory.put s.mem a.toNat (hiByte v)) (a + 1).toNat (loByte v)) :
    t.peek x = if x = a then some (hiByte v) else if x = a + 1 then some (loByte v) else s.peek x := by
  have hpeek := State.peek_put_put s a (a + 1) x (hiByte v) (loByte v)
  rw [State.peek, State.setMem_mem] at hpeek
  rw [State.peek, h, hpeek]
  by_cases ha : x = a
  · rw [if_neg (ha ▸ word_ne_succ a), if_pos ha, if_pos ha]
  · simp only [if_neg ha]

/-- Settles O20: a read after a write, for one byte and for the two bytes of a 16-bit value, high byte first. -/
theorem memoryReadAfterWrite : Obligations.MemoryReadAfterWrite := by
  refine ⟨fun s a v => ⟨_, writeByte_eq a v s, rfl, readByte_of_peek ?_, fun x hx => ?_⟩,
    fun s a v => ⟨_, writeWord_eq a v s, rfl, readByte_of_peek ?_, readByte_of_peek ?_, ?_, fun x hx hx1 => ?_⟩⟩
  · rw [State.peek_put, if_pos rfl]
  · rw [State.peek_put, if_neg hx]
  · rw [peek_of_wordWritten rfl, if_pos rfl, hiByte_eq_ofNat]
  · rw [peek_of_wordWritten rfl, if_neg (word_ne_succ a).symm, if_pos rfl, loByte_eq_ofNat]
  · refine readWord_eq_next.2 ⟨hiByte v, loByte v, ?_, ?_, (hiByte_append_loByte v).symm⟩
    · rw [peek_of_wordWritten rfl, if_pos rfl]
    · rw [peek_of_wordWritten rfl, if_neg (word_ne_succ a).symm, if_pos rfl]
  · rw [peek_of_wordWritten rfl, if_neg hx, if_neg hx1]

/-- Reading anywhere after a byte was pushed. -/
theorem peek_of_pushByte {v : Byte} {s t : State} {x : Word} (h : pushByte .spec v s = .next t) :
    t.peek x = if x = s.sp - 1 then some v else s.peek x := by
  cases (pushByte_eq v s).symm.trans h
  exact peek_of_byteWritten (s := s) rfl

/-- Settles O21: the low byte goes where the second byte of the value lies and the high byte, pushed after it, below; a pop takes the
high byte and then, from the next position, the low byte. -/
theorem stackWordsAreTwoBytes : Obligations.StackWordsAreTwoBytes := by
  refine ⟨fun s v => ⟨_, _, _, pushWord_eq v s, pushByte_eq (loByte v) s, pushByte_eq (hiByte v) _, ?_, fun x => ?_⟩,
    fun s t u hi lo ht hu => ?_⟩
  · have hsp : s.sp - 2 = s.sp - 1 - 1 := by bv_omega
    simp only [State.setMem, State.setSp, hsp]
  · have hlo : s.sp - 2 + 1 = s.sp - 1 := by bv_omega
    have hhi : s.sp - 2 = s.sp - 1 - 1 := by bv_omega
    rw [peek_of_wordWritten (s := s) rfl, peek_of_pushByte (pushByte_eq (hiByte v) _), peek_of_pushByte (pushByte_eq _ s), hlo, hhi]
    rfl
  · obtain ⟨hhi, rfl⟩ := popByte_eq_next.1 ht
    obtain ⟨hlo, rfl⟩ := popByte_eq_next.1 hu
    have hsp : s.sp + 1 + 1 = s.sp + 2 := by bv_omega
    rw [popWord_of_peek hhi hlo]
    simp only [State.setSp, hsp]

end Sys2Proof.Machine
end

section
/-! SUPPORT. What the operations that move data answer, where the operand they read is read. -/

namespace Sys2Proof.Machine

/-! ### `MOV` -/

theorem mov8_reg {src : Src8} {s : State} {v : Byte} (h : readSrc8 .spec src s = .next v) (r : Reg) (len : Word) :
    mov8 .spec (.reg r) src len s = .next { s.setReg r v with ip := s.ip + len } := by
  simp only [mov8, h, andThen_next, writeLoc8, advance_eq, State.setReg_ip]

/-- A store of one byte completes; it writes memory and `IP`. -/
theorem mov8_mem {src : Src8} {s : State} {v : Byte} (h : readSrc8 .spec src s = .next v) (m : AddrForm) (len : Word) :
    ∃ t, mov8 .spec (.mem m) src len s = .next t ∧ t = { s with mem := t.mem, ip := s.ip + len } ∧
      ∀ a : Word, t.peek a = if a = effectiveAddress .spec m s then some v else s.peek a :=
  ⟨_, mov8_eq_next.2 ⟨v, _, h, writeByte_eq .., rfl⟩, rfl, fun _ => peek_of_byteWritten rfl⟩

theorem mov16_pair {src : Src16} {s : State} {v : Word} (h : readSrc16 .spec src s = .next v) (p : Pair) (len : Word) :
    mov16 .spec (.pair p) src len s = .next { s.setPair p v with ip := s.ip + len } := by
  simp only [mov16, h, andThen_next, writeLoc16, advance_eq, State.setPair_ip]

theorem mov16_sp {src : Src16} {s : State} {v : Word} (h : readSrc16 .spec src s = .next v) (len : Word) :
    mov16 .spec .sp src len s = .next { s with sp := v, ip := s.ip + len } := by
  simp only [mov16, h, andThen_next, writeLoc16, advance_eq, State.setSp]

/-- A store of two bytes completes; it writes memory and `IP`. -/
theorem mov16_mem {src : Src16} {s : State} {v : Word} (h : readSrc16 .spec src s = .next v) (m : AddrForm) (len : Word) :
    ∃ t, mov16 .spec (.mem m) src len s = .next t ∧ t = { s with mem := t.mem, ip := s.ip + len } ∧
      ∀ a : Word, t.peek a = if a = effectiveAddress .spec m s then some (hiByte v)
        else if a = effectiveAddress .spec m s + 1 then some (loByte v) else s.peek a :=
  ⟨_, mov16_eq_next.2 ⟨v, _, h, writeWord_eq .., rfl⟩, rfl, fun _ => peek_of_wordWritten rfl⟩

theorem readSrc8_mem {m : AddrForm} {s : State} {v : Byte} (h : s.peek (effectiveAddress .spec m s) = some v) :
    readSrc8 .spec (.loc (.mem m)) s = .next v := readByte_of_peek h

theorem readSrc16_mem {m : AddrForm} {s : State} {x y : Byte} (hx : s.peek (effectiveAddress .spec m s) = some x)
    (hy : s.peek (effectiveAddress .spec m s + 1) = some y) : readSrc16 .spec (.loc (.mem m)) s = .next (x ++ y) :=
  readWord_of_peek hx hy

/-- The two halves of a pair are its two registers (R11). -/
theorem hiByte_pair (s : State) (p : Pair) : hiByte (s.pair p) = s.reg (pairHi p) := hiByte_append ..

theorem loByte_pair (s : State) (p : Pair) : loByte (s.pair p) = s.reg (pairLo p) := loByte_append ..

/-! ### `IN` and `OUT` -/

theorem input_of_cons {s : State} {v : Byte} {rest : List Byte} (h : s.input = v :: rest) (r : Reg) (len : Word) :
    input .spec r len s = .next { s.setReg r v with input := rest, ip := s.ip + len } := by
  cases r <;> simp only [input, ioIn, h] <;> rfl

theorem input_of_nil {s : State} (h : s.input = []) (r : Reg) (len : Word) :
    input .spec r len s =
      .next { s.setReg r (Config.freeInput s.inputDraws) with inputDraws := s.inputDraws + 1, ip := s.ip + len } := by
  have hio : ioIn .spec s = some (Config.freeInput s.inputDraws, { s with inputDraws := s.inputDraws + 1 }) := by
    simp only [ioIn, h]
    rfl
  cases r <;> simp only [input, hio] <;> rfl

/-! ### `PUSH` and `POP` -/

/-- The byte `F` is 000SPOCZ (R17). -/
theorem packFlags_eq_ofNat (f : Flags) : packFlags .spec f = BitVec.ofNat 8 (16 * f.sign.toNat + 8 * f.parity.toNat +
    4 * f.overflow.toNat + 2 * f.carry.toNat + f.zero.toNat) := by
  obtain ⟨s, p, o, c, z⟩ := f
  revert s p o c z
  decide

/-- The flags of a byte `F` made of flags are the flags it was made of. -/
theorem unpackFlags_packFlags (f : Flags) : unpackFlags .spec (packFlags .spec f) = f := by
  obtain ⟨s, p, o, c, z⟩ := f
  revert s p o c z
  decide

theorem push8_of_read {l : Loc8} {s : State} {v : Byte} (h : readLoc8 .spec l s = .next v) (len : Word) :
    ∃ t, push8 .spec l len s = .next t ∧ t = { s with sp := s.sp - 1, mem := t.mem, ip := s.ip + len } ∧
      ∀ a : Word, t.peek a = if a = s.sp - 1 then some v else s.peek a :=
  ⟨_, push8_eq_next.2 ⟨v, h, rfl⟩, rfl, fun _ => peek_of_byteWritten rfl⟩

theorem pop8_reg {s : State} {v : Byte} (h : s.peek s.sp = some v) (r : Reg) (len : Word) :
    pop8 .spec (.reg r) len s = .next { s.setReg r v with sp := s.sp + 1, ip := s.ip + len } :=
  pop8_eq_next.2 ⟨v, _, h, rfl, by cases r <;> rfl⟩

theorem pop8_flags {s : State} {v : Byte} (h : s.peek s.sp = some v) (len : Word) :
    pop8 .spec .flags len s = .next { s with flags := unpackFlags .spec v, sp := s.sp + 1, ip := s.ip + len } :=
  pop8_eq_next.2 ⟨v, _, h, rfl, rfl⟩

theorem pop8_direct {s : State} {v : Byte} (h : s.peek s.sp = some v) (x len : Word) :
    ∃ t, pop8 .spec (.mem (.direct x)) len s = .next t ∧ t = { s with sp := s.sp + 1, mem := t.mem, ip := s.ip + len } ∧
      ∀ a : Word, t.peek a = if a = x then some v else s.peek a :=
  ⟨_, pop8_eq_next.2 ⟨v, _, h, writeByte_eq .., rfl⟩, rfl, fun _ => peek_of_byteWritten (s := s) rfl⟩

theorem push16_next (p : Pair) (len : Word) (s : State) :
    ∃ t, push16 .spec p len s = .next t ∧ t = { s with sp := s.sp - 2, mem := t.mem, ip := s.ip + len } ∧
      ∀ a : Word, t.peek a = if a = s.sp - 2 then some (s.reg (pairHi p))
        else if a = s.sp - 1 then some (s.reg (pairLo p)) else s.peek a := by
  refine ⟨_, push16_eq p len s, rfl, fun a => ?_⟩
  have hlo : s.sp - 2 + 1 = s.sp - 1 := by bv_omega
  rw [← hiByte_pair, ← loByte_pair, ← hlo]
  exact peek_of_wordWritten (s := s) rfl

theorem pop16_of_peek {s : State} {x y : Byte} (hx : s.peek s.sp = some x) (hy : s.peek (s.sp + 1) = some y) (p : Pair)
    (len : Word) : pop16 .spec p len s = .next { s.setPair p (x ++ y) with sp := s.sp + 2, ip := s.ip + len } :=
  pop16_eq_next.2 ⟨_, readWord_of_peek hx hy, by cases p <;> rfl⟩

end Sys2Proof.Machine
end

section
/-! PROOFS. The data movement instructions (spec/40_mov8.md, spec/41_mov16.md, spec/42_io_stack.md). -/

namespace Sys2Proof.Proofs

open Machine

/-- Settles O22: each instruction runs `mov8` on the operands of its row of the list. -/
theorem mov8 : Obligations.Mov8 := by
  intro s v x
  refine ⟨fun i r h => ?_, fun i r q h => ?_, fun i r m len h y hy => ?_, fun i m q len h => ?_,
    mov8_mem (src := .imm v) (s := s) rfl (.direct x) 4⟩
  · have hrun : exec i s = Machine.mov8 .spec (.reg r) (.imm v) 2 s := by fin_cases h <;> rfl
    rw [hrun, mov8_reg rfl]
  · have hrun : exec i s = Machine.mov8 .spec (.reg r) (.loc (.reg q)) 1 s := by fin_cases h <;> rfl
    rw [hrun, mov8_reg rfl]
  · have hrun : exec i s = Machine.mov8 .spec (.reg r) (.loc (.mem m)) len s := by fin_cases h <;> rfl
    rw [hrun, mov8_reg (readSrc8_mem hy)]
  · have hrun : exec i s = Machine.mov8 .spec (.mem m) (.loc (.reg q)) len s := by fin_cases h <;> rfl
    rw [hrun]
    exact mov8_mem rfl m len

/-- Settles O23: each instruction runs `mov16` on the operands of its row of the list. -/
theorem mov16 : Obligations.Mov16 := by
  intro s x
  refine ⟨fun i p h => ?_, fun i p m len h hi lo hhi hlo => ?_, ?_, ?_,
    mov16_pair (src := .loc .sp) (s := s) rfl .AB 1, mov16_pair (src := .loc .sp) (s := s) rfl .CD 1,
    mov16_sp (src := .imm x) (s := s) rfl 3, fun hi lo hhi hlo => mov16_sp (readSrc16_mem (m := .direct x) hhi hlo) 3,
    mov16_sp (src := .loc (.pair .AB)) (s := s) rfl 1, mov16_sp (src := .loc (.pair .CD)) (s := s) rfl 1,
    fun i m p len h => ?_, ?_⟩
  · have hrun : exec i s = Machine.mov16 .spec (.pair p) (.imm x) 3 s := by fin_cases h <;> rfl
    rw [hrun, mov16_pair rfl]
  · have hrun : exec i s = Machine.mov16 .spec (.pair p) (.loc (.mem m)) len s := by fin_cases h <;> rfl
    rw [hrun, mov16_pair (readSrc16_mem hhi hlo)]
  · exact (mov16_pair (src := .loc (.pair .CD)) (s := s) rfl .AB 1).trans (by
      simp only [State.setPair_AB, State.pair_CD, hiByte_append, loByte_append])
  · exact (mov16_pair (src := .loc (.pair .AB)) (s := s) rfl .CD 1).trans (by
      simp only [State.setPair_CD, State.pair_AB, hiByte_append, loByte_append])
  · have hrun : exec i s = Machine.mov16 .spec (.mem m) (.loc (.pair p)) len s := by fin_cases h <;> rfl
    rw [hrun, ← hiByte_pair, ← loByte_pair]
    exact mov16_mem rfl m len
  · rw [← hiByte_eq_ofNat, ← loByte_eq_ofNat]
    exact mov16_mem (src := .loc .sp) (s := s) rfl (.direct x) 3

/-- Settles O24: the two `IN` and the two `OUT` run `input` and `output` on their register. -/
theorem inputAndOutput : Obligations.InputAndOutput := by
  refine fun s r => ⟨fun i h => ?_, fun i h => ?_⟩
  · have hrun : exec i s = input .spec r 1 s := by fin_cases h <;> rfl
    rw [hrun]
    exact ⟨fun v rest hin => input_of_cons hin r 1, fun hin => ⟨_, input_of_nil hin r 1⟩⟩
  · have hrun : exec i s = output .spec r 1 s := by fin_cases h <;> rfl
    rw [hrun, output_eq, advance_eq]

/-- Settles O25: each instruction pushes the location of its operand. -/
theorem push8 : Obligations.Push8 := by
  refine fun s => ⟨fun i v h => ?_, fun x v hx => push8_of_read (l := .mem (.direct x)) (readByte_of_peek hx) 3⟩
  obtain ⟨l, hrun, hread⟩ : ∃ l, exec i s = Machine.push8 .spec l 1 s ∧ readLoc8 .spec l s = .next v := by
    rw [← packFlags_eq_ofNat] at h
    fin_cases h
    exacts [⟨.reg .A, rfl, rfl⟩, ⟨.reg .B, rfl, rfl⟩, ⟨.reg .C, rfl, rfl⟩, ⟨.reg .D, rfl, rfl⟩, ⟨.flags, rfl, rfl⟩]
  rw [hrun]
  exact push8_of_read hread 1

/-- Settles O26: each instruction pops to the location of its operand. -/
theorem pop8 : Obligations.Pop8 := by
  refine fun s v hv => ⟨fun i r h => ?_, pop8_flags hv 1, fun x => pop8_direct hv x 3⟩
  have hrun : exec i s = Machine.pop8 .spec (.reg r) 1 s := by fin_cases h <;> rfl
  rw [hrun, pop8_reg hv]

theorem exec_push16 {i : Instr} {p : Pair} (h : (i, p) ∈ ([(.pushAB, .AB), (.pushCD, .CD)] : List (Instr × Pair))) (s : State) :
    exec i s = push16 .spec p 1 s := by fin_cases h <;> rfl

theorem exec_pop16 {i : Instr} {p : Pair} (h : (i, p) ∈ ([(.popAB, .AB), (.popCD, .CD)] : List (Instr × Pair))) (s : State) :
    exec i s = pop16 .spec p 1 s := by fin_cases h <;> rfl

/-- Settles O27: the high byte of a pair lies at the new `SP`, and a pop reads it from there first. -/
theorem pushAndPop16 : Obligations.PushAndPop16 := by
  refine fun s p => ⟨fun i h => ?_, fun i h hi lo hhi hlo => ?_⟩
  · rw [exec_push16 h]
    exact push16_next p 1 s
  · rw [exec_pop16 h, pop16_of_peek hhi hlo]
    simp only [State.setPair, hiByte_append, loByte_append]

/-- Settles O28: what was pushed lies where the pop reads it, and `SP` comes back. -/
theorem pushThenPopCopies : Obligations.PushThenPopCopies := by
  refine fun s => ⟨fun i j p q hi hj => ?_, ?_⟩
  · obtain ⟨t, ht, hframe, hpeek⟩ := push16_next p 1 s
    have hsp : t.sp = s.sp - 2 := by rw [hframe]
    have hne : s.sp - 2 + 1 ≠ s.sp - 2 := (word_ne_succ _).symm
    have hlo : s.sp - 2 + 1 = s.sp - 1 := by bv_omega
    have hpop := pop16_of_peek (s := t) (x := s.reg (pairHi p)) (y := s.reg (pairLo p)) (by rw [hpeek, hsp, if_pos rfl])
      (by rw [hpeek, hsp, if_neg hne, if_pos hlo]) q 1
    refine ⟨t, _, (exec_push16 hi s).trans ht, (exec_pop16 hj t).trans hpop, ?_, fun a ha2 ha1 => ?_⟩
    · have hback : s.sp - 2 + 2 = s.sp := by bv_omega
      have hip : s.ip + 1 + 1 = s.ip + 2 := by bv_omega
      rw [hframe]
      cases q <;> simp only [State.setPair_AB, State.setPair_CD, State.pair, hback, hip]
    · exact (State.setPair_peek t q _ a).trans ((hpeek a).trans ((if_neg ha2).trans (if_neg ha1)))
  · obtain ⟨t, ht, hframe, hpeek⟩ := push8_of_read (l := .flags) (s := s) rfl 1
    have hsp : t.sp = s.sp - 1 := by rw [hframe]
    have hpop := pop8_flags (s := t) (v := packFlags .spec s.flags) (by rw [hpeek, hsp, if_pos rfl]) 1
    refine ⟨t, _, ht, hpop, ?_, fun a ha => (hpeek a).trans (if_neg ha)⟩
    have hback : s.sp - 1 + 1 = s.sp := by bv_omega
    have hip : s.ip + 1 + 1 = s.ip + 2 := by bv_omega
    rw [hframe]
    simp only [unpackFlags_packFlags, hback, hip]

end Sys2Proof.Proofs
end

section
/-! SUPPORT. The result and the flags of the one-operand operations (spec/10_state.md R23, R25 to R27), for every width. -/

namespace Sys2Proof.Machine

/-! ### `INC` and `DEC` (R23) -/

/-- `O` after `INC`: the operand was the largest signed value. -/
theorem flagsInc_overflow (cfg : Config) {w : Nat} (a : BitVec w) :
    (flagsInc cfg a).2.overflow = decide (a = BitVec.ofNat w (2 ^ (w - 1)) - BitVec.ofNat w 1) := by
  have hres : (flagsInc cfg a).2.overflow = ((flagsInc cfg a).1 == BitVec.ofNat w (2 ^ (w - 1))) := rfl
  rw [hres, flagsInc_fst, Bool.eq_iff_iff, beq_iff_eq, decide_eq_true_iff, eq_sub_iff_add_eq]

/-- `O` after `DEC`: the operand was the smallest signed value. -/
theorem flagsDec_overflow (cfg : Config) {w : Nat} (a : BitVec w) :
    (flagsDec cfg a).2.overflow = decide (a = BitVec.ofNat w (2 ^ (w - 1) - 1) + BitVec.ofNat w 1) := by
  have hres : (flagsDec cfg a).2.overflow = ((flagsDec cfg a).1 == BitVec.ofNat w (2 ^ (w - 1) - 1)) := rfl
  rw [hres, flagsDec_fst, Bool.eq_iff_iff, beq_iff_eq, decide_eq_true_iff, sub_eq_iff_eq_add]

/-! ### `NEG` (R25) -/

theorem flagsNeg_fst (cfg : Config) {w : Nat} (a : BitVec w) : (flagsNeg cfg a).1 = -a := by
  rw [flagsNeg, flagsSub_fst, Bool.toNat_false, BitVec.sub_zero, zero_sub]

theorem flagsNeg_show {w : Nat} (a : BitVec w) : (flagsNeg .spec a).2.Show (-a) := by
  rw [← flagsNeg_fst .spec]
  exact flagsSub_show 0 a false

theorem flagsNeg_carry (cfg : Config) {w : Nat} (a : BitVec w) : (flagsNeg cfg a).2.carry = decide (a ≠ 0) := by
  have hzero : a.toNat = 0 ↔ a = 0 := BitVec.toNat_inj (y := 0)
  have h0 : (0 : BitVec w).toNat = 0 := BitVec.toNat_zero
  rw [Bool.eq_iff_iff, flagsNeg, flagsSub_carry, decide_eq_true_iff, ne_eq, ← hzero, h0, Bool.toNat_false]
  omega

theorem flagsNeg_overflow8 (cfg : Config) (a : Byte) : (flagsNeg cfg a).2.overflow = decide (a = 0x80) := by
  have ha := a.isLt
  rw [Bool.eq_iff_iff, flagsNeg, flagsSub_overflow8, decide_eq_true_iff, OutOfRange, ← BitVec.toNat_inj,
    show (0 : Byte).toInt = 0 from rfl, show (0x80 : Byte).toNat = 128 from rfl, BitVec.toInt_eq_toNat_cond, Bool.toNat_false]
  omega

theorem flagsNeg_overflow16 (cfg : Config) (a : Word) : (flagsNeg cfg a).2.overflow = decide (a = 0x8000) := by
  have ha := a.isLt
  rw [Bool.eq_iff_iff, flagsNeg, flagsSub_overflow16, decide_eq_true_iff, OutOfRange, ← BitVec.toNat_inj,
    show (0 : Word).toInt = 0 from rfl, show (0x8000 : Word).toNat = 32768 from rfl, BitVec.toInt_eq_toNat_cond, Bool.toNat_false]
  omega

/-! ### `SHL` and `SHR` (R26) -/

theorem flagsShl_fst (cfg : Config) {w : Nat} (a : BitVec w) : (flagsShl cfg a).1 = a <<< 1 := by
  apply BitVec.eq_of_toNat_eq
  simp only [flagsShl, BitVec.toNat_ofNat, BitVec.toNat_shiftLeft, Nat.shiftLeft_eq, Nat.pow_one]

theorem flagsShl_show {w : Nat} (a : BitVec w) : (flagsShl .spec a).2.Show (a <<< 1) := by
  rw [← flagsShl_fst .spec]
  exact flagsOf_show ..

theorem flagsShl_carry (cfg : Config) {w : Nat} (a : BitVec w) : (flagsShl cfg a).2.carry = a.getLsbD (w - 1) :=
  BitVec.msb_eq_getLsbD_last a

/-- `O` after `SHL`: the top two bits of the operand differ. -/
theorem flagsShl_overflow (cfg : Config) {w : Nat} (a : BitVec (w + 2)) :
    (flagsShl cfg a).2.overflow = (a.getLsbD w != a.getLsbD (w + 1)) := by
  have hres : (flagsShl cfg a).2.overflow = ((flagsShl cfg a).1.msb ^^ a.msb) := rfl
  rw [hres, flagsShl_fst, BitVec.msb_shiftLeft, BitVec.msb_eq_getLsbD_last]
  simp [BitVec.getMsbD]

theorem flagsShr_fst (cfg : Config) {w : Nat} (a : BitVec w) : (flagsShr cfg a).1 = a >>> 1 := by
  apply BitVec.eq_of_toNat_eq
  have ha := a.isLt
  simp only [flagsShr, BitVec.toNat_ofNat, BitVec.toNat_ushiftRight, Nat.shiftRight_eq_div_pow, Nat.pow_one]
  exact Nat.mod_eq_of_lt (by omega)

theorem flagsShr_show {w : Nat} (a : BitVec w) : (flagsShr .spec a).2.Show (a >>> 1) := by
  rw [← flagsShr_fst .spec]
  exact flagsOf_show ..

theorem flagsShr_sign (cfg : Config) {w : Nat} (a : BitVec w) : (flagsShr cfg a).2.sign = false := by
  have hres : (flagsShr cfg a).2.sign = (flagsShr cfg a).1.msb := rfl
  rw [hres, flagsShr_fst, BitVec.msb_ushiftRight]
  simp

theorem flagsShr_overflow (cfg : Config) {w : Nat} (a : BitVec w) : (flagsShr cfg a).2.overflow = a.getLsbD (w - 1) :=
  BitVec.msb_eq_getLsbD_last a

/-! ### `RL` and `RR` (R27) -/

theorem flagsRl_fst {w : Nat} (a : BitVec (w + 2)) (c : Bool) : (flagsRl .spec a c).1 = a.rotateLeft 1 := by
  have ha := a.isLt
  have hpow : 2 ^ (w + 2) = 2 * 2 ^ (w + 1) := Nat.pow_succ'
  have htop : a.toNat >>> (w + 1) = a.msb.toNat := by
    rw [BitVec.msb_eq_decide, Nat.shiftRight_eq_div_pow, show w + 2 - 1 = w + 1 from rfl]
    by_cases h : 2 ^ (w + 1) ≤ a.toNat
    · rw [decide_eq_true h, Bool.toNat_true]
      exact Nat.div_eq_of_lt_le (by omega) (by omega)
    · rw [decide_eq_false h]
      exact Nat.div_eq_of_lt (by omega)
  have hlow : a.toNat * 2 % 2 ^ (w + 2) = (a.toNat % 2 ^ (w + 1)) <<< 1 := by
    rw [Nat.shiftLeft_eq, Nat.pow_succ 2 (w + 1), Nat.mul_mod_mul_right, Nat.pow_one]
  apply BitVec.eq_of_toNat_eq
  calc (flagsRl .spec a c).1.toNat
      = (a.toNat * 2 % 2 ^ (w + 2) + a.msb.toNat) % 2 ^ (w + 2) := BitVec.toNat_ofNat ..
    _ = ((a.toNat % 2 ^ (w + 1)) <<< 1 ||| a.msb.toNat) % 2 ^ (w + 2) := by
        rw [hlow, Nat.shiftLeft_add_eq_or_of_lt (Bool.toNat_lt _)]
    _ = (a.rotateLeft 1).toNat % 2 ^ (w + 2) := by
        rw [BitVec.toNat_rotateLeft, Nat.mod_eq_of_lt (show 1 < w + 2 by omega), Nat.shiftLeft_eq a.toNat, Nat.pow_one, hlow,
          Nat.add_sub_cancel_right (m := 1) (n := w + 1), htop]
    _ = (a.rotateLeft 1).toNat := Nat.mod_eq_of_lt (a.rotateLeft 1).isLt

/-- `O` after `RL`: the top two bits of the operand differ. -/
theorem flagsRl_overflow {w : Nat} (a : BitVec (w + 2)) (c : Bool) :
    (flagsRl .spec a c).2.overflow = (a.getLsbD w != a.getLsbD (w + 1)) := by
  have hres : (flagsRl .spec a c).2.overflow = ((flagsRl .spec a c).1.msb ^^ a.msb) := rfl
  rw [hres, flagsRl_fst, BitVec.msb_rotateLeft, BitVec.msb_eq_getLsbD_last, Nat.mod_eq_of_lt (show 1 < w + 2 by omega)]
  simp [BitVec.getMsbD]

theorem flagsRr_fst {w : Nat} (a : BitVec (w + 2)) (c : Bool) : (flagsRr .spec a c).1 = a.rotateRight 1 := by
  have ha := a.isLt
  have hpow : 2 ^ (w + 2) = 2 * 2 ^ (w + 1) := Nat.pow_succ'
  have hbit : (a.getLsbD 0).toNat = a.toNat % 2 := by
    rw [BitVec.getLsbD, Nat.testBit_zero]
    rcases Nat.mod_two_eq_zero_or_one a.toNat with h | h <;> rw [h] <;> rfl
  have hhigh : a.toNat <<< (w + 1) % 2 ^ (w + 2) = (a.toNat % 2) <<< (w + 1) := by
    rw [Nat.shiftLeft_eq, Nat.shiftLeft_eq, Nat.pow_succ' (n := w + 1), Nat.mul_mod_mul_right]
  have hlow : a.toNat / 2 < 2 ^ (w + 1) := by omega
  apply BitVec.eq_of_toNat_eq
  calc (flagsRr .spec a c).1.toNat
      = (a.toNat / 2 + (a.getLsbD 0).toNat * 2 ^ (w + 1)) % 2 ^ (w + 2) := BitVec.toNat_ofNat ..
    _ = ((a.toNat % 2) <<< (w + 1) ||| a.toNat / 2) % 2 ^ (w + 2) := by
        rw [hbit, ← Nat.shiftLeft_add_eq_or_of_lt hlow, Nat.shiftLeft_eq, Nat.add_comm]
    _ = (a.rotateRight 1).toNat % 2 ^ (w + 2) := by
        rw [BitVec.toNat_rotateRight, Nat.mod_eq_of_lt (show 1 < w + 2 by omega), Nat.shiftRight_eq_div_pow, Nat.pow_one,
          Nat.add_sub_cancel_right (m := 1) (n := w + 1), hhigh, Nat.or_comm]
    _ = (a.rotateRight 1).toNat := Nat.mod_eq_of_lt (a.rotateRight 1).isLt

/-- `O` after `RR`: the bit that wraps to the top differs from the old top bit. -/
theorem flagsRr_overflow {w : Nat} (a : BitVec (w + 2)) (c : Bool) :
    (flagsRr .spec a c).2.overflow = (a.getLsbD 0 != a.getLsbD (w + 1)) := by
  have hres : (flagsRr .spec a c).2.overflow = ((flagsRr .spec a c).1.msb ^^ (flagsRr .spec a c).1.getLsbD w) := rfl
  rw [hres, flagsRr_fst, BitVec.msb_eq_getLsbD_last, BitVec.getLsbD_rotateRight, BitVec.getLsbD_rotateRight,
    Nat.mod_eq_of_lt (show 1 < w + 2 by omega)]
  simp [Nat.add_comm 1 w]

end Sys2Proof.Machine
end

section
/-! SUPPORT. What the arithmetic and logic operations answer, once the value and the flags they write are known. -/

namespace Sys2Proof.Machine

section

variable {s : State} {f : Flags}

theorem unary8_reg_eq {op : UnaryOp 8} {r : Reg} {v : Byte} (hv : (op.compute .spec (s.reg r) s.flags.carry).1 = v)
    (hf : s.writeFlags .spec op.row (op.compute .spec (s.reg r) s.flags.carry).2 = s.setFlags f) (len : Word) :
    unary8 .spec op (.reg r) len s = .next { s.setReg r v with flags := f, ip := s.ip + len } := by
  rw [unary8_reg, hv, hf]
  cases r <;> rfl

theorem unary8_direct_eq {op : UnaryOp 8} {x : Word} {a v : Byte} (hx : s.peek x = some a)
    (hv : (op.compute .spec a s.flags.carry).1 = v)
    (hf : s.writeFlags .spec op.row (op.compute .spec a s.flags.carry).2 = s.setFlags f) (len : Word) :
    unary8 .spec op (.mem (.direct x)) len s =
      .next { s with flags := f, mem := Memory.put s.mem x.toNat v, ip := s.ip + len } := by
  rw [unary8_direct op x len s a hx, hv, hf]
  rfl

theorem unary16_pair_eq {op : UnaryOp 16} {p : Pair} {v : Word} (hv : (op.compute .spec (s.pair p) s.flags.carry).1 = v)
    (hf : s.writeFlags .spec op.row (op.compute .spec (s.pair p) s.flags.carry).2 = s.setFlags f) (len : Word) :
    unary16 .spec op (.pair p) len s = .next { s.setPair p v with flags := f, ip := s.ip + len } := by
  rw [unary16_pair, hv, hf]
  cases p <;> rfl

theorem unary16_sp_eq {op : UnaryOp 16} {v : Word} (hv : (op.compute .spec s.sp s.flags.carry).1 = v)
    (hf : s.writeFlags .spec op.row (op.compute .spec s.sp s.flags.carry).2 = s.setFlags f) (len : Word) :
    unary16 .spec op .sp len s = .next { s with sp := v, flags := f, ip := s.ip + len } := by
  rw [unary16_sp, hv, hf]
  rfl

theorem binary8_eq {op : BinaryOp 8} {dst : Reg} {src : Src8} {b v : Byte} (hb : readSrc8 .spec src s = .next b)
    (hv : (op.compute .spec (s.reg dst) b s.flags.carry).1 = v)
    (hf : s.writeFlags .spec op.row (op.compute .spec (s.reg dst) b s.flags.carry).2 = s.setFlags f) (len : Word) :
    binary8 .spec op dst src len s = .next { s.setReg dst v with flags := f, ip := s.ip + len } := by
  rw [binary8_of_read op dst len hb, hv, hf]
  cases dst <;> rfl

theorem binary16_pair_eq {op : BinaryOp 16} {p : Pair} {src : Src16} {b v : Word} (hb : readSrc16 .spec src s = .next b)
    (hv : (op.compute .spec (s.pair p) b s.flags.carry).1 = v)
    (hf : s.writeFlags .spec op.row (op.compute .spec (s.pair p) b s.flags.carry).2 = s.setFlags f) (len : Word) :
    binary16 .spec op (.pair p) src len s = .next { s.setPair p v with flags := f, ip := s.ip + len } := by
  rw [binary16_pair op p len hb, hv, hf]
  cases p <;> rfl

theorem binary16_sp_eq {op : BinaryOp 16} {src : Src16} {b v : Word} (hb : readSrc16 .spec src s = .next b)
    (hv : (op.compute .spec s.sp b s.flags.carry).1 = v)
    (hf : s.writeFlags .spec op.row (op.compute .spec s.sp b s.flags.carry).2 = s.setFlags f) (len : Word) :
    binary16 .spec op .sp src len s = .next { s with sp := v, flags := f, ip := s.ip + len } := by
  rw [binary16_sp op len hb, hv, hf]
  rfl

end

/-- The flags `INC` leaves: those of the sum, `C` kept (R23). -/
def flagsAfterInc {w : Nat} (a : BitVec w) (old : Flags) : Flags := { (flagsInc .spec a).2 with carry := old.carry }

/-- The flags `DEC` leaves: those of the difference, `C` kept (R23). -/
def flagsAfterDec {w : Nat} (a : BitVec w) (old : Flags) : Flags := { (flagsDec .spec a).2 with carry := old.carry }

theorem flagsAfterInc_show {w : Nat} (a : BitVec w) (old : Flags) : (flagsAfterInc a old).Show (a + BitVec.ofNat w 1) := by
  rw [← flagsInc_fst .spec]
  exact (flagsInc_show a).of_same rfl rfl rfl

theorem flagsAfterDec_show {w : Nat} (a : BitVec w) (old : Flags) : (flagsAfterDec a old).Show (a - BitVec.ofNat w 1) := by
  rw [← flagsDec_fst .spec]
  exact (flagsDec_show a).of_same rfl rfl rfl

theorem flagsAfterInc_overflow {w : Nat} (a : BitVec w) (old : Flags) :
    (flagsAfterInc a old).overflow = decide (a = BitVec.ofNat w (2 ^ (w - 1)) - BitVec.ofNat w 1) :=
  flagsInc_overflow .spec a

theorem flagsAfterDec_overflow {w : Nat} (a : BitVec w) (old : Flags) :
    (flagsAfterDec a old).overflow = decide (a = BitVec.ofNat w (2 ^ (w - 1) - 1) + BitVec.ofNat w 1) :=
  flagsDec_overflow .spec a

/-- The flags `RL` leaves: `C` the bit that wraps, `O` whether the top two bits differ, the others kept (R27). -/
def flagsAfterRl {w : Nat} (a : BitVec (w + 2)) (old : Flags) : Flags :=
  { old with carry := a.getLsbD (w + 1), overflow := a.getLsbD w != a.getLsbD (w + 1) }

/-- The flags `RR` leaves: `C` the bit that wraps, `O` whether it differs from the old top bit, the others kept (R27). -/
def flagsAfterRr {w : Nat} (a : BitVec (w + 2)) (old : Flags) : Flags :=
  { old with carry := a.getLsbD 0, overflow := a.getLsbD 0 != a.getLsbD (w + 1) }

theorem flagsRl_snd {w : Nat} (a : BitVec (w + 2)) (old : Flags) :
    { old with carry := (flagsRl .spec a old.carry).2.carry, overflow := (flagsRl .spec a old.carry).2.overflow } =
      flagsAfterRl a old := by
  have hcarry : (flagsRl .spec a old.carry).2.carry = a.getLsbD (w + 1) := BitVec.msb_eq_getLsbD_last a
  rw [hcarry, flagsRl_overflow, flagsAfterRl]

theorem flagsRr_snd {w : Nat} (a : BitVec (w + 2)) (old : Flags) :
    { old with carry := (flagsRr .spec a old.carry).2.carry, overflow := (flagsRr .spec a old.carry).2.overflow } =
      flagsAfterRr a old := by
  rw [flagsRr_overflow, flagsAfterRr]
  rfl

end Sys2Proof.Machine
end

section
/-! PROOFS. One-operand arithmetic and logic (spec/43_alu_unary.md). -/

namespace Sys2Proof.Proofs

open Machine

/-- Settles O29: `INC` and `DEC` run `unary8` on their operand; `C` is kept, and the other flags are those of the new value. -/
theorem incDec8 : Obligations.IncDec8 := by
  refine fun s => ⟨fun i r h => ?_, fun i r h => ?_, fun x v hx => ⟨?_, ?_⟩⟩
  · have hrun : exec i s = unary8 .spec aluInc (.reg r) 1 s := by fin_cases h <;> rfl
    refine ⟨flagsAfterInc (s.reg r) s.flags, ?_, flagsAfterInc_show .., rfl, flagsAfterInc_overflow ..⟩
    rw [hrun, unary8_reg_eq (flagsInc_fst ..) rfl]
    rfl
  · have hrun : exec i s = unary8 .spec aluDec (.reg r) 1 s := by fin_cases h <;> rfl
    refine ⟨flagsAfterDec (s.reg r) s.flags, ?_, flagsAfterDec_show .., rfl, flagsAfterDec_overflow ..⟩
    rw [hrun, unary8_reg_eq (flagsDec_fst ..) rfl]
    rfl
  · exact ⟨_, unary8_direct_eq hx (flagsInc_fst ..) rfl 3, rfl, flagsAfterInc_show v s.flags, rfl,
      flagsAfterInc_overflow v s.flags, fun _ => peek_of_byteWritten rfl⟩
  · exact ⟨_, unary8_direct_eq hx (flagsDec_fst ..) rfl 3, rfl, flagsAfterDec_show v s.flags, rfl,
      flagsAfterDec_overflow v s.flags, fun _ => peek_of_byteWritten rfl⟩

/-- Settles O30: the same of a pair and of `SP`. -/
theorem incDec16 : Obligations.IncDec16 := by
  refine fun s => ⟨fun i p h => ?_, fun i p h => ?_, ?_, ?_⟩
  · have hrun : exec i s = unary16 .spec aluInc (.pair p) 1 s := by fin_cases h <;> rfl
    refine ⟨flagsAfterInc (s.pair p) s.flags, ?_, flagsAfterInc_show .., rfl, flagsAfterInc_overflow ..⟩
    rw [hrun, unary16_pair_eq (flagsInc_fst ..) rfl]
    rfl
  · have hrun : exec i s = unary16 .spec aluDec (.pair p) 1 s := by fin_cases h <;> rfl
    refine ⟨flagsAfterDec (s.pair p) s.flags, ?_, flagsAfterDec_show .., rfl, flagsAfterDec_overflow ..⟩
    rw [hrun, unary16_pair_eq (flagsDec_fst ..) rfl]
    rfl
  · exact ⟨flagsAfterInc s.sp s.flags, unary16_sp_eq (flagsInc_fst ..) rfl 1, flagsAfterInc_show .., rfl,
      flagsAfterInc_overflow ..⟩
  · exact ⟨flagsAfterDec s.sp s.flags, unary16_sp_eq (flagsDec_fst ..) rfl 1, flagsAfterDec_show .., rfl,
      flagsAfterDec_overflow ..⟩

/-- Settles O31: `NOT` writes no flag, and `NEG` is the subtraction from zero. -/
theorem notAndNeg : Obligations.NotAndNeg := by
  refine fun s => ⟨fun i r h => ?_, ?_, fun i r h => ?_, ?_⟩
  · have hrun : exec i s = unary8 .spec aluNot (.reg r) 1 s := by fin_cases h <;> rfl
    rw [hrun, unary8_reg_eq (f := s.flags) (flagsNot_fst ..) rfl]
    cases r <;> rfl
  · refine (unary16_pair_eq (s := s) (op := aluNot) (f := s.flags) (flagsNot_fst ..) rfl 1).trans ?_
    have hnot : (~~~(s.a ++ s.b) : Word) = ~~~s.a ++ ~~~s.b := BitVec.not_append
    simp only [State.setPair_AB, State.pair_AB, hnot, hiByte_append, loByte_append]
  · have hrun : exec i s = unary8 .spec aluNeg (.reg r) 1 s := by fin_cases h <;> rfl
    refine ⟨(flagsNeg .spec (s.reg r)).2, ?_, flagsNeg_show .., flagsNeg_carry .., flagsNeg_overflow8 ..⟩
    rw [hrun, unary8_reg_eq (flagsNeg_fst ..) rfl]
    rfl
  · exact ⟨(flagsNeg .spec (s.pair .AB)).2, unary16_pair_eq (flagsNeg_fst ..) rfl 1, flagsNeg_show .., flagsNeg_carry ..,
      flagsNeg_overflow16 ..⟩

/-- The bits of the pair `AB` are those of its registers. -/
theorem getLsbD_pair_AB (s : State) (k : Nat) :
    BitVec.getLsbD (s.pair .AB) k = if k < 8 then s.b.getLsbD k else s.a.getLsbD (k - 8) := by
  rw [State.pair_AB, BitVec.getLsbD_append]

/-- Settles O32: a shift is its operand doubled or halved, and its flags are bits of the operand. -/
theorem shifts : Obligations.Shifts := by
  refine fun s => ⟨fun i r h => ?_, fun i r h => ?_, ?_, ?_⟩
  · have hrun : exec i s = unary8 .spec aluShl (.reg r) 1 s := by fin_cases h <;> rfl
    refine ⟨(flagsShl .spec (s.reg r)).2, ?_, flagsShl_show .., flagsShl_carry .., flagsShl_overflow ..⟩
    rw [hrun, unary8_reg_eq (flagsShl_fst ..) rfl]
    rfl
  · have hrun : exec i s = unary8 .spec aluShr (.reg r) 1 s := by fin_cases h <;> rfl
    refine ⟨(flagsShr .spec (s.reg r)).2, ?_, flagsShr_show .., flagsShr_sign .., rfl, flagsShr_overflow ..⟩
    rw [hrun, unary8_reg_eq (flagsShr_fst ..) rfl]
    rfl
  · refine ⟨(flagsShl .spec (s.pair .AB)).2, unary16_pair_eq (flagsShl_fst ..) rfl 1, flagsShl_show .., ?_, ?_⟩
    · exact (flagsShl_carry ..).trans (getLsbD_pair_AB s 15)
    · exact (flagsShl_overflow (w := 14) ..).trans (congrArg₂ _ (getLsbD_pair_AB s 14) (getLsbD_pair_AB s 15))
  · refine ⟨(flagsShr .spec (s.pair .AB)).2, unary16_pair_eq (flagsShr_fst ..) rfl 1, flagsShr_show .., flagsShr_sign .., ?_, ?_⟩
    · exact getLsbD_pair_AB s 0
    · exact (flagsShr_overflow ..).trans (getLsbD_pair_AB s 15)

/-- Settles O33: a rotation's value is its operand turned by one place, the old `C` entering nowhere. -/
theorem rotations : Obligations.Rotations := by
  refine fun s => ⟨fun i r h => ?_, fun i r h => ?_, ?_, ?_⟩
  · have hrun : exec i s = unary8 .spec aluRl (.reg r) 1 s := by fin_cases h <;> rfl
    rw [hrun, unary8_reg_eq (op := aluRl) (flagsRl_fst ..) (congrArg s.setFlags (flagsRl_snd (s.reg r) s.flags))]
    rfl
  · have hrun : exec i s = unary8 .spec aluRr (.reg r) 1 s := by fin_cases h <;> rfl
    rw [hrun, unary8_reg_eq (op := aluRr) (flagsRr_fst ..) (congrArg s.setFlags (flagsRr_snd (s.reg r) s.flags))]
    rfl
  · have hflags : flagsAfterRl (s.pair .AB) s.flags =
        { s.flags with carry := s.a.getLsbD 7, overflow := s.a.getLsbD 6 != s.a.getLsbD 7 } := by
      rw [flagsAfterRl, getLsbD_pair_AB, getLsbD_pair_AB]
      rfl
    rw [← hflags]
    exact unary16_pair_eq (op := aluRl) (flagsRl_fst ..) (congrArg s.setFlags (flagsRl_snd (s.pair .AB) s.flags)) 1
  · have hflags : flagsAfterRr (s.pair .AB) s.flags =
        { s.flags with carry := s.b.getLsbD 0, overflow := s.b.getLsbD 0 != s.a.getLsbD 7 } := by
      rw [flagsAfterRr, getLsbD_pair_AB, getLsbD_pair_AB]
      rfl
    rw [← hflags]
    exact unary16_pair_eq (op := aluRr) (flagsRr_fst ..) (congrArg s.setFlags (flagsRr_snd (s.pair .AB) s.flags)) 1

end Sys2Proof.Proofs
end

section
/-! PROOFS. Two-operand arithmetic and logic (spec/44_alu_binary8.md, spec/45_alu16_muldiv.md). -/

namespace Sys2Proof.Machine

theorem flagsAdd_show_sum {w : Nat} (a b : BitVec w) (cin : Bool) :
    (flagsAdd .spec a b cin).2.Show (a + b + BitVec.ofNat w cin.toNat) := by
  rw [← flagsAdd_fst .spec]
  exact flagsAdd_show ..

theorem flagsSub_show_difference {w : Nat} (a b : BitVec w) (bin : Bool) :
    (flagsSub .spec a b bin).2.Show (a - b - BitVec.ofNat w bin.toNat) := by
  rw [← flagsSub_fst .spec]
  exact flagsSub_show ..

theorem sub_borrow_false {w : Nat} (a : BitVec w) : a - BitVec.ofNat w false.toNat = a := BitVec.sub_zero a

theorem add_carry_false {w : Nat} (a : BitVec w) : a + BitVec.ofNat w false.toNat = a := BitVec.add_zero a

theorem cast_carry_false : ((false.toNat : Nat) : Int) = 0 := rfl

/-- `CMP` changes the flags and `IP` alone. -/
theorem compare8_eq {s : State} {first : Reg} {src : Src8} {b : Byte} (hb : readSrc8 .spec src s = .next b) (len : Word) :
    compare8 .spec first src len s =
      .next { s with flags := (flagsSub .spec (s.reg first) b false).2, ip := s.ip + len } := by
  rw [compare8_of_read first len hb]
  rfl

/-- After a subtraction `Z` says whether the operands are equal. -/
theorem zero_of_show_sub {w : Nat} {f : Flags} {a b : BitVec w} (h : f.Show (a - b)) : f.zero = true ↔ a = b := by
  obtain ⟨-, hzero, -⟩ := h
  have hnat : (a - b).toNat = 0 ↔ a - b = 0 := BitVec.toNat_inj (y := 0)
  rw [hzero, decide_eq_true_iff, hnat]
  exact sub_eq_zero

/-- After a subtraction `S` and `O` differ exactly when the first operand is the smaller one, signed (R22). -/
theorem sign_ne_overflow_iff_lt {f : Flags} {a b : Byte} (hshow : f.Show (a - b))
    (ho : f.overflow = true ↔ OutOfRange 8 (a.toInt - b.toInt)) : f.sign ≠ f.overflow ↔ a.toInt < b.toInt := by
  obtain ⟨hsign, -, -⟩ := hshow
  have ha := a.isLt
  have hb := b.isLt
  have hneg : f.sign = true ↔ (a - b).toInt < 0 := by rw [hsign, decide_eq_true_iff]
  rw [BitVec.toInt_eq_toNat_cond, BitVec.toNat_sub] at hneg
  rw [OutOfRange] at ho
  rw [ne_eq, Bool.eq_iff_iff, hneg, ho, BitVec.toInt_eq_toNat_cond, BitVec.toInt_eq_toNat_cond]
  omega

end Sys2Proof.Machine

namespace Sys2Proof.Proofs

open Machine

/-- Settles O34: `ADD` and `ADC` are one addition, the carry in being zero or `C`. -/
theorem addAdc8 : Obligations.AddAdc8 := by
  intro s v i r b len cin h
  have hop : ∃ op src, exec i s = binary8 .spec op r src len s ∧ readSrc8 .spec src s = .next b ∧
      op.compute .spec (s.reg r) b s.flags.carry = flagsAdd .spec (s.reg r) b cin ∧ op.row = .addition := by
    fin_cases h <;> unfold exec <;> exact ⟨_, _, rfl, rfl, rfl, rfl⟩
  obtain ⟨op, src, hrun, hsrc, hcompute, hrow⟩ := hop
  refine ⟨(flagsAdd .spec (s.reg r) b cin).2, ?_, flagsAdd_show_sum .., flagsAdd_carry .., flagsAdd_overflow8 ..⟩
  exact hrun.trans (binary8_eq hsrc (by rw [hcompute, flagsAdd_fst]) (by rw [hcompute, hrow]; rfl) len)

/-- Settles O35: `SUB` and `SBB` are one subtraction, the borrow in being zero or `C`. -/
theorem subSbb8 : Obligations.SubSbb8 := by
  intro s v i r b len bin h
  have hop : ∃ op src, exec i s = binary8 .spec op r src len s ∧ readSrc8 .spec src s = .next b ∧
      op.compute .spec (s.reg r) b s.flags.carry = flagsSub .spec (s.reg r) b bin ∧ op.row = .subtraction := by
    fin_cases h <;> unfold exec <;> exact ⟨_, _, rfl, rfl, rfl, rfl⟩
  obtain ⟨op, src, hrun, hsrc, hcompute, hrow⟩ := hop
  refine ⟨(flagsSub .spec (s.reg r) b bin).2, ?_, flagsSub_show_difference .., flagsSub_carry .., flagsSub_overflow8 ..⟩
  exact hrun.trans (binary8_eq hsrc (by rw [hcompute, flagsSub_fst]) (by rw [hcompute, hrow]; rfl) len)

/-- Settles O36: `CMP` leaves the flags of the difference, which tell equal, below and less. -/
theorem cmp8 : Obligations.Cmp8 := by
  intro s v i r b len h
  have hop : ∃ src, exec i s = compare8 .spec r src len s ∧ readSrc8 .spec src s = .next b := by
    fin_cases h <;> unfold exec <;> exact ⟨_, rfl, rfl⟩
  obtain ⟨src, hrun, hsrc⟩ := hop
  have hshow := flagsSub_show_difference (s.reg r) b false
  have hcarry := flagsSub_carry .spec (s.reg r) b false
  have hover := flagsSub_overflow8 .spec (s.reg r) b false
  rw [sub_borrow_false] at hshow
  rw [Bool.toNat_false, Nat.add_zero] at hcarry
  rw [cast_carry_false, Int.sub_zero] at hover
  exact ⟨_, hrun.trans (compare8_eq hsrc len), hshow, zero_of_show_sub hshow, hcarry, hover,
    sign_ne_overflow_iff_lt hshow hover⟩

/-- Settles O37: the three operations differ only in the value they show. -/
theorem logic8 : Obligations.Logic8 := by
  intro s v i r res len h
  have hop : ∃ op src b, exec i s = binary8 .spec op r src len s ∧ readSrc8 .spec src s = .next b ∧
      op.compute .spec (s.reg r) b s.flags.carry = flagsLogic .spec res ∧ op.row = .logic := by
    fin_cases h <;> unfold exec <;> exact ⟨_, _, _, rfl, rfl, rfl, rfl⟩
  obtain ⟨op, src, b, hrun, hsrc, hcompute, hrow⟩ := hop
  refine ⟨(flagsLogic .spec res).2, ?_, flagsLogic_show res, rfl, rfl⟩
  exact hrun.trans (binary8_eq hsrc (by rw [hcompute, flagsLogic_fst]) (by rw [hcompute, hrow]; rfl) len)

/-- Settles O38: a 16-bit addition of a pair, or of `SP`, without carry in. -/
theorem add16 : Obligations.Add16 := by
  refine fun s x => ⟨fun i p b len h => ?_, fun i b len h => ?_⟩
  · have hop : ∃ src, exec i s = binary16 .spec aluAdd (.pair p) src len s ∧ readSrc16 .spec src s = .next b := by
      fin_cases h <;> unfold exec <;> exact ⟨_, rfl, rfl⟩
    obtain ⟨src, hrun, hsrc⟩ := hop
    have hval : (flagsAdd .spec (s.pair p) b false).1 = s.pair p + b := by rw [flagsAdd_fst, add_carry_false]
    refine ⟨(flagsAdd .spec (s.pair p) b false).2, hrun.trans (binary16_pair_eq hsrc hval rfl len), ?_, ?_, ?_⟩
    · exact hval ▸ flagsAdd_show ..
    · exact flagsAdd_carry ..
    · exact (flagsAdd_overflow16 ..).trans (by rw [cast_carry_false, Int.add_zero])
  · have hop : ∃ src, exec i s = binary16 .spec aluAdd .sp src len s ∧ readSrc16 .spec src s = .next b := by
      fin_cases h <;> unfold exec <;> exact ⟨_, rfl, rfl⟩
    obtain ⟨src, hrun, hsrc⟩ := hop
    have hval : (flagsAdd .spec s.sp b false).1 = s.sp + b := by rw [flagsAdd_fst, add_carry_false]
    refine ⟨(flagsAdd .spec s.sp b false).2, hrun.trans (binary16_sp_eq hsrc hval rfl len), ?_, ?_, ?_⟩
    · exact hval ▸ flagsAdd_show ..
    · exact flagsAdd_carry ..
    · exact (flagsAdd_overflow16 ..).trans (by rw [cast_carry_false, Int.add_zero])

/-- Settles O39: a 16-bit subtraction from a pair, or from `SP`, without borrow in. -/
theorem sub16 : Obligations.Sub16 := by
  refine fun s x => ⟨fun i p b len h => ?_, fun i b len h => ?_⟩
  · have hop : ∃ src, exec i s = binary16 .spec aluSub (.pair p) src len s ∧ readSrc16 .spec src s = .next b := by
      fin_cases h <;> unfold exec <;> exact ⟨_, rfl, rfl⟩
    obtain ⟨src, hrun, hsrc⟩ := hop
    have hval : (flagsSub .spec (s.pair p) b false).1 = s.pair p - b := by rw [flagsSub_fst, sub_borrow_false]
    refine ⟨(flagsSub .spec (s.pair p) b false).2, hrun.trans (binary16_pair_eq hsrc hval rfl len), ?_, ?_, ?_⟩
    · exact hval ▸ flagsSub_show ..
    · exact flagsSub_carry ..
    · exact (flagsSub_overflow16 ..).trans (by rw [cast_carry_false, Int.sub_zero])
  · have hop : ∃ src, exec i s = binary16 .spec aluSub .sp src len s ∧ readSrc16 .spec src s = .next b := by
      fin_cases h <;> unfold exec <;> exact ⟨_, rfl, rfl⟩
    obtain ⟨src, hrun, hsrc⟩ := hop
    have hval : (flagsSub .spec s.sp b false).1 = s.sp - b := by rw [flagsSub_fst, sub_borrow_false]
    refine ⟨(flagsSub .spec s.sp b false).2, hrun.trans (binary16_sp_eq hsrc hval rfl len), ?_, ?_, ?_⟩
    · exact hval ▸ flagsSub_show ..
    · exact flagsSub_carry ..
    · exact (flagsSub_overflow16 ..).trans (by rw [cast_carry_false, Int.sub_zero])

end Sys2Proof.Proofs
end

section
/-! PROOFS. Multiplication, division and sign expansion (spec/45_alu16_muldiv.md). -/

namespace Sys2Proof.Machine

/-! ### The products (R359, R360, R28) -/

theorem unsignedProduct_toNat (a d : Byte) : (unsignedProduct a d).toNat = a.toNat * d.toNat := by
  have hle : a.toNat * d.toNat ≤ 255 * 255 := Nat.mul_le_mul (Nat.le_of_lt_succ a.isLt) (Nat.le_of_lt_succ d.isLt)
  rw [unsignedProduct, BitVec.toNat_ofNat]
  omega

/-- The product of `MUL` is wide where it needs more than 8 bits. -/
theorem unsignedWide_iff (v : Word) : unsignedWide v = true ↔ 255 < v.toNat := by
  have hzero : (hiByte v).toNat = 0 ↔ hiByte v = 0 := BitVec.toNat_inj (y := 0)
  rw [unsignedWide, bne_iff_ne, ne_eq, ← hzero, hiByte_toNat]
  omega

theorem signedProduct_toInt (a d : Byte) : (signedProduct a d).toInt = a.toInt * d.toInt := by
  have ha : |a.toInt| ≤ 128 := abs_le.2 ⟨a.le_toInt, Int.le_of_lt (a.toInt_lt.trans_le (by decide))⟩
  have hd : |d.toInt| ≤ 128 := abs_le.2 ⟨d.le_toInt, Int.le_of_lt (d.toInt_lt.trans_le (by decide))⟩
  have hle : |a.toInt * d.toInt| ≤ 128 * 128 := by
    rw [abs_mul]
    exact mul_le_mul ha hd (abs_nonneg _) (by decide)
  obtain ⟨hlow, hhigh⟩ := abs_le.1 hle
  exact BitVec.toInt_ofInt_eq_self (by decide) (by omega) (by omega)

/-- The product of `IMUL` is wide where 8 signed bits cannot hold it. -/
theorem signedWide_iff (v : Word) : signedWide v = true ↔ OutOfRange 8 v.toInt := by
  have hv := v.isLt
  rw [signedWide, bne_iff_ne, ne_eq, ← BitVec.toInt_inj, sext16_toInt, BitVec.toInt_eq_toNat_cond, BitVec.toInt_eq_toNat_cond,
    loByte_toNat, OutOfRange]
  omega

/-! ### The quotients and remainders (R361, R362, R501) -/

theorem unsignedDivision_zero (n : Word) : unsignedDivision n 0 = .error .zero := rfl

/-- The quotient of `DIV` fits exactly where the high byte of the dividend is below the divisor. -/
theorem quotient_fits_iff {a b d : Byte} (hd : d ≠ 0) : (a ++ b).toNat / d.toNat ≤ 255 ↔ a.toNat < d.toNat := by
  have hpos : 0 < d.toNat := Nat.pos_of_ne_zero fun h => hd (BitVec.toNat_inj.1 h)
  have hb := b.isLt
  rw [← Nat.lt_succ_iff, Nat.div_lt_iff_lt_mul hpos, append_toNat]
  omega

theorem unsignedDivision_overflow {a b d : Byte} (hd : d ≠ 0) (h : d.toNat ≤ a.toNat) :
    unsignedDivision (a ++ b) d = .error .overflow := by
  have hne : d.toNat ≠ 0 := fun h => hd (BitVec.toNat_inj.1 h)
  have hbig : (a ++ b).toNat / d.toNat > 0xFF := not_le.1 (mt (quotient_fits_iff hd).1 (not_lt.2 h))
  simp only [unsignedDivision]
  rw [if_neg hne, if_pos hbig]

theorem unsignedDivision_of_lt {a b d : Byte} (h : a.toNat < d.toNat) : ∃ q r, unsignedDivision (a ++ b) d = .ok (q, r) ∧
    q.toNat * d.toNat + r.toNat = (a ++ b).toNat ∧ r.toNat < d.toNat := by
  have hne : d.toNat ≠ 0 := Nat.ne_zero_of_lt h
  have hfits : (a ++ b).toNat / d.toNat ≤ 255 :=
    (quotient_fits_iff fun h0 => hne (congrArg BitVec.toNat h0)).2 h
  have hrem : (a ++ b).toNat % d.toNat < d.toNat := Nat.mod_lt _ (Nat.pos_of_ne_zero hne)
  have hd := d.isLt
  refine ⟨BitVec.ofNat 8 ((a ++ b).toNat / d.toNat), BitVec.ofNat 8 ((a ++ b).toNat % d.toNat), ?_, ?_, ?_⟩
  · simp only [unsignedDivision]
    rw [if_neg hne, if_neg (not_lt.2 hfits)]
  · rw [BitVec.toNat_ofNat, BitVec.toNat_ofNat, Nat.mod_eq_of_lt (Nat.lt_succ_of_le hfits), Nat.mod_eq_of_lt (hrem.trans hd)]
    exact Nat.div_add_mod' ..
  · rwa [BitVec.toNat_ofNat, Nat.mod_eq_of_lt (hrem.trans hd)]

theorem signedDivision_zero (n : Word) : signedDivision n 0 = .error .zero := rfl

theorem outOfRange8_iff (n : Int) : OutOfRange 8 n ↔ n < -128 ∨ n > 127 := by
  rw [OutOfRange]
  omega

theorem signedDivision_overflow {n : Word} {d : Byte} (hd : d ≠ 0) (h : OutOfRange 8 (n.toInt.tdiv d.toInt)) :
    signedDivision n d = .error .overflow := by
  have hne : d.toInt ≠ 0 := fun h => hd (BitVec.toInt_inj.1 h)
  simp only [signedDivision]
  rw [if_neg hne, if_pos ((outOfRange8_iff _).1 h)]

/-- The remainder of a division rounded toward zero is zero or has the sign of the dividend. -/
theorem tmod_eq_zero_or_neg_iff (n d : Int) : n.tmod d = 0 ∨ (n.tmod d < 0 ↔ n < 0) := by
  rcases Int.le_total 0 n with hn | hn
  · have := Int.tmod_nonneg d hn
    omega
  · have hneg := Int.tmod_nonneg d (Int.neg_nonneg_of_nonpos hn)
    rw [Int.neg_tmod] at hneg
    rcases Int.lt_or_eq_of_le hn with hlt | rfl
    · omega
    · exact .inl (Int.zero_tmod d)

theorem signedDivision_of_fits {n : Word} {d : Byte} (hd : d ≠ 0) (h : ¬ OutOfRange 8 (n.toInt.tdiv d.toInt)) :
    ∃ q r, signedDivision n d = .ok (q, r) ∧ q.toInt = n.toInt.tdiv d.toInt ∧ r.toInt = n.toInt.tmod d.toInt ∧
      r.toInt.natAbs < d.toInt.natAbs := by
  have hne : d.toInt ≠ 0 := fun h => hd (BitVec.toInt_inj.1 h)
  have hrem : n.toInt - n.toInt.tdiv d.toInt * d.toInt = n.toInt.tmod d.toInt := by rw [Int.tmod_def, Int.mul_comm]
  have habs : (n.toInt.tmod d.toInt).natAbs < d.toInt.natAbs := by
    rw [Int.natAbs_tmod]
    exact Nat.mod_lt _ (Int.natAbs_pos.2 hne)
  have hlow := d.le_toInt
  have hhigh := d.toInt_lt
  have hr : (BitVec.ofInt 8 (n.toInt.tmod d.toInt)).toInt = n.toInt.tmod d.toInt :=
    BitVec.toInt_ofInt_eq_self (by decide) (by omega) (by omega)
  rw [outOfRange8_iff] at h
  refine ⟨BitVec.ofInt 8 (n.toInt.tdiv d.toInt), BitVec.ofInt 8 (n.toInt.tmod d.toInt), ?_, ?_, hr, hr.symm ▸ habs⟩
  · simp only [signedDivision]
    rw [if_neg hne, if_neg h, hrem]
  · exact BitVec.toInt_ofInt_eq_self (by decide) (by omega) (by omega)

/-! ### The operations -/

section

variable {s : State} {q r : Byte} {cause : DivideCause}

theorem exec_divAB_D_of_ok (h : unsignedDivision (s.pair .AB) s.d = .ok (q, r)) :
    exec .divAB_D s = .next (storeDivision .spec q r 1 s) := by
  have hrun : exec .divAB_D s = divide .spec unsignedDivision unsignedInstead 1 s := rfl
  rw [hrun, divide, State.reg_D, h]

theorem exec_idivAB_D_of_ok (h : signedDivision (s.pair .AB) s.d = .ok (q, r)) :
    exec .idivAB_D s = .next (storeDivision .spec q r 1 s) := by
  have hrun : exec .idivAB_D s = divide .spec signedDivision signedInstead 1 s := rfl
  rw [hrun, divide, State.reg_D, h]

theorem exec_divAB_D_of_error (h : unsignedDivision (s.pair .AB) s.d = .error cause) :
    exec .divAB_D s = .fault (.divideError cause) := by
  have hrun : exec .divAB_D s = divide .spec unsignedDivision unsignedInstead 1 s := rfl
  rw [hrun, divide, State.reg_D, h]
  rfl

theorem exec_idivAB_D_of_error (h : signedDivision (s.pair .AB) s.d = .error cause) :
    exec .idivAB_D s = .fault (.divideError cause) := by
  have hrun : exec .idivAB_D s = divide .spec signedDivision signedInstead 1 s := rfl
  rw [hrun, divide, State.reg_D, h]
  rfl

end

/-- A byte extended is the byte below eight copies of its sign (R363). -/
theorem sign_append_toInt (b : Byte) : ((if b.toInt < 0 then 0xFF else 0x00 : Byte) ++ b : Word).toInt = b.toInt := by
  have hb := b.isLt
  rw [BitVec.toInt_eq_toNat_cond, append_toNat]
  split
  · next h =>
    have hhigh : (0xFF : Byte).toNat = 255 := rfl
    rw [hhigh]
    rw [BitVec.toInt_eq_toNat_cond] at h ⊢
    omega
  · next h =>
    have hhigh : (0x00 : Byte).toNat = 0 := rfl
    rw [hhigh]
    rw [BitVec.toInt_eq_toNat_cond] at h ⊢
    omega

end Sys2Proof.Machine

namespace Sys2Proof.Proofs

open Machine

/-- Settles O40: the product of two bytes fits 16 bits, and needs more than 8 exactly where its high byte is not zero. -/
theorem mulUnsigned : Obligations.MulUnsigned := by
  intro s
  have hwide := unsignedWide_iff (unsignedProduct s.a s.d)
  rw [unsignedProduct_toNat] at hwide
  refine ⟨_, rfl, rfl, ?_, hwide, hwide⟩
  exact (congrArg BitVec.toNat (hiByte_append_loByte _)).trans (unsignedProduct_toNat s.a s.d)

/-- Settles O41: the same of the signed product. -/
theorem mulSigned : Obligations.MulSigned := by
  intro s
  have hwide := signedWide_iff (signedProduct s.a s.d)
  rw [signedProduct_toInt] at hwide
  refine ⟨_, rfl, rfl, ?_, hwide, hwide⟩
  exact (congrArg BitVec.toInt (hiByte_append_loByte _)).trans (signedProduct_toInt s.a s.d)

/-- Settles O42: the quotient fits 8 bits exactly where the high byte of the dividend is below the divisor. -/
theorem divUnsigned : Obligations.DivUnsigned := by
  refine fun s => ⟨fun h => ?_, fun h t ht => ?_⟩
  · obtain ⟨q, r, hok, hdiv, hrem⟩ := unsignedDivision_of_lt (b := s.b) h
    exact ⟨storeDivision .spec q r 1 s, exec_divAB_D_of_ok hok, rfl, hdiv, hrem⟩
  · have hfault : ∃ cause, unsignedDivision (s.pair .AB) s.d = .error cause := by
      by_cases hd : s.d = 0
      · exact ⟨.zero, by rw [hd, unsignedDivision_zero]⟩
      · exact ⟨.overflow, unsignedDivision_overflow hd (not_lt.1 h)⟩
    obtain ⟨cause, hcause⟩ := hfault
    cases (exec_divAB_D_of_error hcause).symm.trans ht

/-- Settles O43: quotient and remainder are those of the division rounded toward zero. -/
theorem divSigned : Obligations.DivSigned := by
  intro s hd hfits
  obtain ⟨q, r, hok, hq, hr, habs⟩ := signedDivision_of_fits hd hfits
  have hsign : r.toInt = 0 ∨ (r.toInt < 0 ↔ (s.pair .AB).toInt < 0) := hr ▸ tmod_eq_zero_or_neg_iff ..
  refine ⟨storeDivision .spec q r 1 s, exec_idivAB_D_of_ok hok, rfl, hq, ?_, habs, hsign⟩
  calc q.toInt * s.d.toInt + r.toInt
      = (s.pair .AB).toInt.tdiv s.d.toInt * s.d.toInt + (s.pair .AB).toInt.tmod s.d.toInt := by rw [hq, hr]
    _ = (s.pair .AB).toInt := Int.tdiv_mul_add_tmod ..

/-- Settles O44: the two causes, `zero` first. -/
theorem divideErrors : Obligations.DivideErrors := by
  refine fun s => ⟨fun hd => ⟨?_, ?_⟩, fun hd h => ?_, fun hd h => ?_⟩
  · exact exec_divAB_D_of_error (by rw [hd, unsignedDivision_zero])
  · exact exec_idivAB_D_of_error (by rw [hd, signedDivision_zero])
  · exact exec_divAB_D_of_error (unsignedDivision_overflow hd h)
  · exact exec_idivAB_D_of_error (signedDivision_overflow hd h)

/-- Settles O45: the sign bit of `B` is whether `B` is negative. -/
theorem expandSign : Obligations.ExpandSign := by
  intro s
  have hsign : s.b.getLsbD 7 = decide (s.b.toInt < 0) := by rw [← BitVec.msb_eq_toInt, BitVec.msb_eq_getLsbD_last]
  have hhigh : (if s.b.getLsbD 7 then 0xFF else 0x00 : Byte) = if s.b.toInt < 0 then 0xFF else 0x00 := by
    rw [hsign]
    simp only [decide_eq_true_eq]
  refine ⟨_, rfl, rfl, hhigh, ?_⟩
  exact (congrArg (fun high : Byte => (high ++ s.b : Word).toInt) hhigh).trans (sign_append_toInt s.b)

end Sys2Proof.Proofs
end

section
/-! PROOFS. The branches and `HALT` (spec/46_branches.md, spec/47_control.md). -/

namespace Sys2Proof.Machine

/-- An offset as a number modulo 2^16 (R371). -/
theorem sext16_toNat (v : Byte) : ((sext16 v).toNat : Int) = v.toInt % 65536 := by
  have hv := (sext16 v).isLt
  rw [← sext16_toInt, BitVec.toInt_eq_toNat_cond]
  omega

/-- `JR` always completes, at the next instruction plus the offset. -/
theorem branchRel_taken (len : Word) (offset : Byte) (s : State) : ∃ t, branchRel .spec true len offset s = .next t ∧
    t = { s with ip := t.ip } ∧ (t.ip.toNat : Int) = ((s.ip.toNat : Int) + len.toNat + offset.toInt) % 65536 := by
  refine ⟨{ s with ip := s.ip + len + sext16 offset }, branchRel_eq .., rfl, ?_⟩
  have hoff := sext16_toNat offset
  rw [BitVec.toNat_add, BitVec.toNat_add]
  omega

/-- A branch with an 8-bit offset does what `JR` does if its condition holds, and otherwise goes on to the next instruction. -/
theorem branchRel_eq_jr_or_next {i : Instr} {taken : Bool} {v : Byte} {s : State}
    (hrun : exec i s = branchRel .spec taken 2 v s) :
    exec i s = if taken = true then exec (.jr_rel8 v) s else .next { s with ip := s.ip + 2 } := by
  have hjr : exec (.jr_rel8 v) s = branchRel .spec true 2 v s := rfl
  rw [hrun, hjr]
  cases taken <;> rfl

/-- A relative branch changes `IP` alone. -/
theorem branchRel_next {i : Instr} {taken : Bool} {len : Word} {v : Byte} {s : State}
    (hrun : exec i s = branchRel .spec taken len v s) : ∃ t, exec i s = .next t ∧ t = { s with ip := t.ip } :=
  ⟨_, hrun.trans (branchRel_eq ..), rfl⟩

/-- A branch whose condition says that a relation holds. -/
theorem branch_iff_relation {j : Instr} {taken : Bool} {o : Byte} {t : State} {relation : Prop}
    (hrun : exec j t = branchRel .spec taken 2 o t) (htaken : taken = true ↔ relation) :
    (relation → exec j t = exec (.jr_rel8 o) t) ∧ (¬ relation → exec j t = .next { t with ip := t.ip + 2 }) := by
  rw [branchRel_eq_jr_or_next hrun]
  exact ⟨fun h => if_pos (htaken.2 h), fun h => if_neg (mt htaken.1 h)⟩

/-- `CALL` leaves the high byte of the return address at the new `SP` and its low byte at the next position. -/
theorem callTo_next (target len : Word) (s : State) :
    ∃ t, callTo .spec target len s = .next t ∧ t = { s with sp := s.sp - 2, mem := t.mem, ip := target } ∧
      ∀ a : Word, t.peek a = if a = s.sp - 2 then some (hiByte (s.ip + len))
        else if a = s.sp - 1 then some (loByte (s.ip + len)) else s.peek a := by
  refine ⟨_, callTo_eq target len s, rfl, fun a => ?_⟩
  have hlo : s.sp - 2 + 1 = s.sp - 1 := by bv_omega
  rw [← hlo]
  exact peek_of_wordWritten (s := s) rfl

/-- `RET` reads the address from the two positions at the top of the stack. -/
theorem exec_ret_of_peek {s : State} {x y : Byte} (hx : s.peek s.sp = some x) (hy : s.peek (s.sp + 1) = some y) :
    exec .ret s = .next { s with sp := s.sp + 2, ip := x ++ y } :=
  returnToTop_eq_next.2 ⟨_, readWord_of_peek hx hy, rfl⟩

/-- A halted machine makes no step (R33). -/
theorem step_of_halted {s : State} (h : s.halted = true) : step s = .fault .halted := by
  simp only [step, cycle, h, raise, if_true]

end Sys2Proof.Machine

namespace Sys2Proof.Proofs

open Machine

/-- Settles O46: the three forms are one branch, always taken. -/
theorem jumpRelative : Obligations.JumpRelative := by
  intro s v
  obtain ⟨t, ht, htframe, htip⟩ := branchRel_taken 2 v s
  obtain ⟨u, hu, huframe, huip⟩ := branchRel_taken 1 s.a s
  obtain ⟨w, hw, hwframe, hwip⟩ := branchRel_taken 1 s.b s
  exact ⟨t, u, w, ht, htframe, htip, hu, huframe, huip, hw, hwframe, hwip⟩

/-- Settles O47: each of the sixteen is `branchRel` on its own condition. -/
theorem flagBranches : Obligations.FlagBranches := by
  intro s v i condition h
  have hrun : exec i s = branchRel .spec condition 2 v s := by fin_cases h <;> rfl
  exact ⟨branchRel_eq_jr_or_next hrun, branchRel_next hrun⟩

/-- Settles O48: the condition is that the register is zero, or that it is not. -/
theorem registerBranches : Obligations.RegisterBranches := by
  refine fun s v r => ⟨fun i h => ?_, fun i h => ?_⟩
  · have hrun : exec i s = branchRel .spec (s.reg r == 0) 2 v s := by fin_cases h <;> rfl
    refine ⟨?_, branchRel_next hrun⟩
    rw [branchRel_eq_jr_or_next hrun]
    simp only [beq_iff_eq]
  · have hrun : exec i s = branchRel .spec (s.reg r != 0) 2 v s := by fin_cases h <;> rfl
    refine ⟨?_, branchRel_next hrun⟩
    rw [branchRel_eq_jr_or_next hrun]
    simp only [bne_iff_ne, ite_not]

/-- Settles O49: the register one less is zero exactly where the register was one. -/
theorem loopBranches : Obligations.LoopBranches := by
  intro s v i r h
  have hrun : exec i s = loopRel .spec r 2 v s := by fin_cases h <;> rfl
  have hzero : s.reg r - 1 = 0 ↔ s.reg r = 1 := sub_eq_zero
  have hreg (ip : Word) : ((s.setReg r (s.reg r - 1)).setIp ip).reg r = s.reg r - 1 := by
    rw [State.setIp_reg, State.reg_setReg, if_pos rfl]
  refine ⟨_, hrun.trans (loopRel_eq ..), ?_, ?_, fun hone => ?_, fun hone => ?_⟩
  · rw [hreg]
    rfl
  · rw [hreg, BitVec.toNat_sub]
    have hone : (1 : Byte).toNat = 1 := rfl
    omega
  · rw [State.setIp_ip, hzero.2 hone]
    rfl
  · have hne : (s.reg r - 1 != 0) = true := bne_iff_ne.2 (mt hzero.1 hone)
    rw [State.setIp_ip, if_pos hne]
    exact branchRel_eq true 2 v s

theorem exec_call {s : State} {x target len : Word} {i : Instr} (h : (i, target, len) ∈
    ([(.call_imm16 x, x, 3), (.callAB, s.pair .AB, 1), (.callCD, s.pair .CD, 1)] : List (Instr × Word × Word))) :
    exec i s = callTo .spec target len s := by fin_cases h <;> rfl

/-- Settles O51: each form runs `callTo` on its own operand. -/
theorem callPushesReturnAddress : Obligations.CallPushesReturnAddress := by
  intro s x i target len h
  rw [exec_call h, ← hiByte_eq_ofNat, ← loByte_eq_ofNat]
  exact callTo_next target len s

/-- Settles O52: `RET` is `returnToTop`. -/
theorem returnPopsAddress : Obligations.ReturnPopsAddress := fun _ _ _ => exec_ret_of_peek

/-- Settles O53: `RET` reads what `CALL` wrote, and `SP` comes back. -/
theorem callThenReturn : Obligations.CallThenReturn := by
  intro s x i len h
  obtain ⟨target, hrun⟩ : ∃ target, exec i s = callTo .spec target len s := by
    fin_cases h
    exacts [⟨x, rfl⟩, ⟨s.pair .AB, rfl⟩, ⟨s.pair .CD, rfl⟩]
  obtain ⟨t, ht, hframe, hpeek⟩ := callTo_next target len s
  have hsp : t.sp = s.sp - 2 := by rw [hframe]
  have hne : s.sp - 2 + 1 ≠ s.sp - 2 := (word_ne_succ _).symm
  have hlo : s.sp - 2 + 1 = s.sp - 1 := by bv_omega
  have hback : s.sp - 2 + 2 = s.sp := by bv_omega
  have hret := exec_ret_of_peek (s := t) (x := hiByte (s.ip + len)) (y := loByte (s.ip + len))
    (by rw [hpeek, hsp, if_pos rfl]) (by rw [hpeek, hsp, if_neg hne, if_pos hlo])
  refine ⟨t, _, hrun.trans ht, hret, ?_, fun a ha2 ha1 => (hpeek a).trans ((if_neg ha2).trans (if_neg ha1))⟩
  rw [hframe]
  simp only [hback, hiByte_append_loByte]

/-- Settles O54: the conditions of the ten branches, read on the flags of the comparison. -/
theorem compareThenBranch : Obligations.CompareThenBranch := by
  intro s v i r b len h
  obtain ⟨f, hrun, -, hzero, hcarry, -, hless⟩ := cmp8 s v i r b len h
  refine ⟨_, hrun, fun o j relation hj => ?_⟩
  have heqU : s.reg r = b ↔ (s.reg r).toNat = b.toNat := BitVec.toNat_inj.symm
  have heqS : s.reg r = b ↔ (s.reg r).toInt = b.toInt := BitVec.toInt_inj.symm
  have hnzero : (!f.zero) = true ↔ s.reg r ≠ b := by rw [Bool.not_eq_true', ← Bool.not_eq_true, hzero]
  have hncarry : (!f.carry) = true ↔ b.toNat ≤ (s.reg r).toNat := by
    rw [Bool.not_eq_true', ← Bool.not_eq_true, hcarry, Nat.not_lt]
  have hsame : f.sign = f.overflow ↔ b.toInt ≤ (s.reg r).toInt := by rw [← not_ne_iff, hless, Int.not_lt]
  fin_cases hj
  · exact branch_iff_relation (taken := f.zero) rfl hzero
  · exact branch_iff_relation (taken := !f.zero) rfl hnzero
  · exact branch_iff_relation (taken := f.carry) rfl hcarry
  · exact branch_iff_relation (taken := !f.carry) rfl hncarry
  · exact branch_iff_relation (taken := f.carry || f.zero) rfl (by
      rw [Bool.or_eq_true, hcarry, hzero, heqU, Nat.le_iff_lt_or_eq])
  · exact branch_iff_relation (taken := !f.carry && !f.zero) rfl (by
      rw [Bool.and_eq_true, hncarry, hnzero, ne_eq, heqU]
      omega)
  · exact branch_iff_relation (taken := f.sign == f.overflow) rfl (beq_iff_eq.trans hsame)
  · exact branch_iff_relation (taken := f.sign != f.overflow) rfl (bne_iff_ne.trans hless)
  · exact branch_iff_relation (taken := !f.zero && f.sign == f.overflow) rfl (by
      rw [Bool.and_eq_true, hnzero, beq_iff_eq, hsame, ne_eq, heqS]
      omega)
  · exact branch_iff_relation (taken := f.zero || f.sign != f.overflow) rfl (by
      rw [Bool.or_eq_true, bne_iff_ne, hless, hzero, heqS]
      omega)

/-- Settles O57: `HALT` sets the halted bit, and a halted machine makes no step. -/
theorem haltStops : Obligations.HaltStops := by
  refine fun s => ⟨haltMachine_eq 1 s, fun t ht => ?_⟩
  cases (haltMachine_eq 1 s).symm.trans ht
  exact step_of_halted rfl

end Sys2Proof.Proofs
end
